-- ==== Sys2Proof/Word.lean ====
section
/-! DEFINITION. The word types of the block: every register is 32 bits wide (R30), every buffer element 8 bits (R13), and a bus
offset 13 bits (R80). -/

namespace Sys2Proof

/-- One register, one command word, one bus word (`REG_W` = 32, R6). -/
abbrev Word := BitVec 32

/-- One element of IN_BUF, SYM, PAYLOAD or OUT (R13). -/
abbrev Byte := BitVec 8

/-- A byte offset within the register window, `bus_addr` (R80, R81). -/
abbrev Offset := BitVec 13

/-- The byte-lane write strobes, `bus_wstrb` (R80). -/
abbrev Strobe := BitVec 4

end Sys2Proof
end

