-- ==== Sys2Proof/Config.lean ====
section
/-! DEFINITION. What an implementation of the block fixes (R7, R8) and the free values of the spec (R92). Each is a constant with no
body: no proof can see what it is, so a claim about the block holds whatever it is. -/

namespace Sys2Proof

/-- The two networks a command word can select (R113, R240). -/
inductive Network where
  | mainnet
  | testnet
deriving DecidableEq, Repr

/-- The two values of the parameter `B58_ZERO_DIGIT` (R7): what the base58 encoder emits for a zero integer (R147). -/
inductive ZeroDigit where
  | empty
  | one
deriving DecidableEq, Repr, Inhabited

/-- The parameters a model of the block takes (R7, R8). The rules of the commands are functions of such a triple. -/
structure Params where
  /-- `B58_ZERO_DIGIT` (R7). -/
  zeroDigit : ZeroDigit
  /-- `B32_EMPTY_HRP_OK` (R7). -/
  emptyHrpOk : Bool
  /-- `sha256 : ByteString -> Bytes32` (R8). -/
  sha256 : List Byte → Vector Byte 32

namespace Config

/-- The SHA-256 instance supplied to the block (R8, R80). Log entry 1. -/
opaque sha256 : List Byte → Vector Byte 32

/-- The implementation's `B58_ZERO_DIGIT` (R7). Log entry 2. -/
opaque zeroDigit : ZeroDigit

/-- The implementation's `B32_EMPTY_HRP_OK` (R7). Log entry 3. -/
opaque emptyHrpOk : Bool

/-- The n-th unspecified word a read while `BUSY` is 1 returns (R92). Log entry 4. -/
opaque busyRead : Nat → Word

/-- The parameters of this block. -/
def params : Params := { zeroDigit := zeroDigit, emptyHrpOk := emptyHrpOk, sha256 := sha256 }

end Config

end Sys2Proof
end

