-- ==== Sys2Proof/Syntax.lean ====
section
/-! DEFINITION. The commands of the block, one constructor per row of the opcode table (R116). The operands are the fields N, F, T, P
and S of the command word (R111); every other operand is implicit (R118). -/

namespace Sys2Proof

inductive Instr where
  /-- `CLR` (R280). -/
  | clr
  /-- `B58DEC` (R148). -/
  | b58dec
  /-- `B58CHK` with field N (R244). -/
  | b58chk (n : Network)
  /-- `POLY` (R176). -/
  | poly
  /-- `HRPX` (R180). -/
  | hrpx
  /-- `B32DEC` (R197). -/
  | b32dec
  /-- `REGRP` with fields F, T, P and S (R212). -/
  | regrp (f t : BitVec 4) (pad skip : Bool)
  /-- `SEGWIT` with field N (R222). -/
  | segwit (n : Network)
  /-- `VALIDATE` with field N (R252). -/
  | validate (n : Network)
deriving DecidableEq, Repr

end Sys2Proof
end

