-- ==== Sys2Proof/WellFormed.lean ====
section
/-! DEFINITION. Which terms of `Instr` are commands of the block: the width rule of R114. -/

namespace Sys2Proof

/-- A regrouper width is a bit count in 1..8 (R114). -/
def widthOk (w : BitVec 4) : Bool := decide (1 ≤ w.toNat) && decide (w.toNat ≤ 8)

/-- The condition of the last clause of R117: REGRP needs `1 <= F <= 8` and `1 <= T <= 8`; no other command has a condition. -/
def Instr.wf : Instr → Bool
  | .regrp f t _ _ => widthOk f && widthOk t
  | .clr => true
  | .b58dec => true
  | .b58chk _ => true
  | .poly => true
  | .hrpx => true
  | .b32dec => true
  | .segwit _ => true
  | .validate _ => true

/-- `i` is a command of the block. -/
abbrev WellFormed (i : Instr) : Prop := i.wf = true

end Sys2Proof
end

