-- ==== Sys2Proof/Decode.lean ====
section
/-! DEFINITION. The command word: its fields (R111, R112), the opcode map (R116), the exact encodings (R117), the decoder, which is
total on the 2^32 words (R121) and names why it rejects a word (R120), and the encoder written from the same tables. -/

namespace Sys2Proof

/-- The fields of a command word (R111). -/
structure Fields where
  op : BitVec 8
  n  : Bool
  z1 : BitVec 3
  f  : BitVec 4
  t  : BitVec 4
  p  : Bool
  s  : Bool
  z2 : BitVec 10
deriving DecidableEq, Repr

/-- Field extraction (R112). -/
def fieldsOf (w : Word) : Fields where
  op := w.extractLsb' 0 8
  n  := w.getLsbD 8
  z1 := w.extractLsb' 9 3
  f  := w.extractLsb' 12 4
  t  := w.extractLsb' 16 4
  p  := w.getLsbD 20
  s  := w.getLsbD 21
  z2 := w.extractLsb' 22 10

/-- The layout of R111, `Z2` on the left and `OP` on the right. -/
def wordOf (x : Fields) : Word :=
  x.z2 ++ BitVec.ofBool x.s ++ BitVec.ofBool x.p ++ x.t ++ x.f ++ x.z1 ++ BitVec.ofBool x.n ++ x.op

/-- The nine opcodes (R116). -/
inductive Opcode where
  | clr | b58dec | b58chk | poly | hrpx | b32dec | regrp | segwit | validate
deriving DecidableEq, Repr

/-- The rows of R116 and R117, in the table's order. -/
def opcodes : List Opcode := [.clr, .b58dec, .b58chk, .poly, .hrpx, .b32dec, .regrp, .segwit, .validate]

/-- The OP column of R116. -/
def opByte : Opcode → BitVec 8
  | .clr => 0x01
  | .b58dec => 0x10
  | .b58chk => 0x11
  | .poly => 0x20
  | .hrpx => 0x21
  | .b32dec => 0x22
  | .regrp => 0x23
  | .segwit => 0x24
  | .validate => 0x30

/-- The match column of R117. -/
def matchWord : Opcode → Word
  | .clr => 0x00000001
  | .b58dec => 0x00000010
  | .b58chk => 0x00000011
  | .poly => 0x00000020
  | .hrpx => 0x00000021
  | .b32dec => 0x00000022
  | .regrp => 0x00000023
  | .segwit => 0x00000024
  | .validate => 0x00000030

/-- The mask column of R117. -/
def maskWord : Opcode → Word
  | .clr => 0xFFFFFFFF
  | .b58dec => 0xFFFFFFFF
  | .b58chk => 0xFFFFFEFF
  | .poly => 0xFFFFFFFF
  | .hrpx => 0xFFFFFFFF
  | .b32dec => 0xFFFFFFFF
  | .regrp => 0xFFC00FFF
  | .segwit => 0xFFFFFEFF
  | .validate => 0xFFFFFEFF

/-- `(w & mask) == match` for one row (R117). -/
def rowMatches (w : Word) (o : Opcode) : Bool := w &&& maskWord o == matchWord o

/-- `N = 0` is mainnet and `N = 1` is testnet (R113). -/
def networkOf : Bool → Network
  | false => .mainnet
  | true => .testnet

/-- The field N of a network (R113). -/
def networkBit : Network → Bool
  | .mainnet => false
  | .testnet => true

/-- The command of a row with the operands of its fields (R116). -/
def build (x : Fields) : Opcode → Instr
  | .clr => .clr
  | .b58dec => .b58dec
  | .b58chk => .b58chk (networkOf x.n)
  | .poly => .poly
  | .hrpx => .hrpx
  | .b32dec => .b32dec
  | .regrp => .regrp x.f x.t x.p x.s
  | .segwit => .segwit (networkOf x.n)
  | .validate => .validate (networkOf x.n)

/-- Why a word is illegal: the four parts of the reserved space (R120). -/
inductive DecodeError where
  /-- An opcode value that is not in R116. -/
  | reservedOpcode
  /-- A nonzero Z1 or Z2. -/
  | reservedField
  /-- A nonzero field that the opcode does not use. -/
  | unusedField
  /-- A REGRP word with F or T outside 1..8. -/
  | widthRange
deriving DecidableEq, Repr

/-- The name given to a word that no row of R117 matches (R120). -/
def rejectName (x : Fields) : DecodeError :=
  if opcodes.all (fun o => opByte o != x.op) then .reservedOpcode
  else if x.z1 != 0 || x.z2 != 0 then .reservedField
  else .unusedField

/-- The decoder (R117, R121): the row that matches, with REGRP's width condition. -/
def decode (w : Word) : Except DecodeError Instr :=
  match opcodes.find? (rowMatches w) with
  | none => .error (rejectName (fieldsOf w))
  | some o => if (build (fieldsOf w) o).wf then .ok (build (fieldsOf w) o) else .error .widthRange

/-- A word is legal when it is one command with its field values (R121). -/
def legal (w : Word) : Bool := (decode w).isOk

/-- A command word with all fields but OP equal to 0. -/
def plainFields (o : Opcode) : Fields :=
  { op := opByte o, n := false, z1 := 0, f := 0, t := 0, p := false, s := false, z2 := 0 }

/-- The fields of a command's word (R116, R120: every field the opcode does not use is 0). -/
def encodeFields : Instr → Fields
  | .clr => plainFields .clr
  | .b58dec => plainFields .b58dec
  | .b58chk n => { plainFields .b58chk with n := networkBit n }
  | .poly => plainFields .poly
  | .hrpx => plainFields .hrpx
  | .b32dec => plainFields .b32dec
  | .regrp f t pad skip => { plainFields .regrp with f := f, t := t, p := pad, s := skip }
  | .segwit n => { plainFields .segwit with n := networkBit n }
  | .validate n => { plainFields .validate with n := networkBit n }

/-- The encoder: the one word of a command (R110, R111). -/
def encode (i : Instr) : Word := wordOf (encodeFields i)

/-- The instruction the decoder reads from a word of `nbits` bits. A command is one 32-bit word (R110), so the bits above `nbits` are
0 and there is no second word. -/
def decodeTableWord (nbits w : Nat) : Option Instr :=
  if nbits ≤ 32 then
    match decode (BitVec.ofNat 32 (w % 2 ^ nbits)) with
    | .ok i => some i
    | .error _ => none
  else none

/-- The mnemonic as R116 spells it, in lower case (R124). -/
def mnemonic : Instr → String
  | .clr => "clr"
  | .b58dec => "b58dec"
  | .b58chk _ => "b58chk"
  | .poly => "poly"
  | .hrpx => "hrpx"
  | .b32dec => "b32dec"
  | .regrp _ _ _ _ => "regrp"
  | .segwit _ => "segwit"
  | .validate _ => "validate"

/-- The spelling of a network operand (R122). -/
def networkName : Network → String
  | .mainnet => "main"
  | .testnet => "test"

/-- The operands of a command in the order N, F, T, P, S (R124). -/
def operandNames : Instr → List String
  | .clr => []
  | .b58dec => []
  | .b58chk n => [networkName n]
  | .poly => []
  | .hrpx => []
  | .b32dec => []
  | .regrp f t pad skip =>
    ["f=" ++ toString f.toNat, "t=" ++ toString t.toNat] ++ (if pad then ["pad"] else []) ++ (if skip then ["skip1"] else [])
  | .segwit n => [networkName n]
  | .validate n => [networkName n]

/-- One hex digit, in the capitals R117 writes words with. -/
def hexDigit (d : BitVec 4) : String :=
  match d.toNat with
  | 0 => "0" | 1 => "1" | 2 => "2" | 3 => "3" | 4 => "4" | 5 => "5" | 6 => "6" | 7 => "7"
  | 8 => "8" | 9 => "9" | 10 => "A" | 11 => "B" | 12 => "C" | 13 => "D" | 14 => "E" | _ => "F"

/-- The 8 hex digits of a word. -/
def hexWord (w : Word) : String :=
  hexDigit (w.extractLsb' 28 4) ++ hexDigit (w.extractLsb' 24 4) ++ hexDigit (w.extractLsb' 20 4) ++ hexDigit (w.extractLsb' 16 4) ++
  hexDigit (w.extractLsb' 12 4) ++ hexDigit (w.extractLsb' 8 4) ++ hexDigit (w.extractLsb' 4 4) ++ hexDigit (w.extractLsb' 0 4)

/-- The disassembly spelling of a word (R124). The case of the hex digits is the model's (log entry 17). -/
def disassemble (w : Word) : String :=
  match decode w with
  | .error _ => ".illegal 0x" ++ hexWord w
  | .ok i =>
    match operandNames i with
    | [] => mnemonic i
    | ops => mnemonic i ++ " " ++ String.intercalate ", " ops

end Sys2Proof
end

