-- ==== Sys2Proof/Machine/State.lean ====
section
/-! DEFINITION. The state of the block: the registers and buffers of R30, the hidden register LCMD (R60), and three fields of the
model's own that stand for the world outside (`schedule`, `reads`) and for the free values drawn so far (`draws`). The reset state is
that of R63. -/

namespace Sys2Proof.Machine

/-- The reason codes of R291. REASON never holds a code outside this list. -/
inductive Reason where
  | ok
  | inTooLong
  | b58Len
  | b58Char
  | b58Magic
  | b58Checksum
  | b58NonCanon
  | b32Len
  | b32CharRange
  | b32MixedCase
  | b32NoSep
  | b32EmptyHrp
  | b32ShortData
  | b32Charset
  | b32Checksum
  | regRange
  | regLeftover
  | regPadBits
  | regCapacity
  | segHrp
  | segProgLen
  | segVersion
  | segV0Len
  | polyNotOne
  | illegalCmd
deriving DecidableEq, Repr

/-- The fields of B58_INFO (R47). -/
structure B58Info where
  invChar : Bool
  ovf     : Bool
  canon   : Bool
  dec     : Bool
  zb      : BitVec 5
  lead1   : BitVec 7
  invPos  : BitVec 7
deriving DecidableEq, Repr

/-- B58_INFO with every field 0 (R62). -/
def B58Info.cleared : B58Info :=
  { invChar := false, ovf := false, canon := false, dec := false, zb := 0, lead1 := 0, invPos := 0 }

/-- The fields of B32_INFO (R48). -/
structure B32Info where
  sepPos  : BitVec 7
  dataLen : BitVec 7
  sepV    : Bool
deriving DecidableEq, Repr

/-- B32_INFO with every field 0 (R62). -/
def B32Info.cleared : B32Info := { sepPos := 0, dataLen := 0, sepV := false }

/-- The fields of WVER (R49). -/
structure WVer where
  ver : BitVec 5
  wv  : Bool
deriving DecidableEq, Repr

/-- WVER with every field 0 (R62). -/
def WVer.cleared : WVer := { ver := 0, wv := false }

/-- One host bus access (R13, R80): a read of an offset, or a write of an offset with its strobes and its data. -/
inductive Access where
  | read (off : Offset)
  | write (off : Offset) (strb : Strobe) (data : Word)
deriving DecidableEq, Repr

/-- Whose step is next (R271): an access of the host, the engine's completion step, or a reset with the accesses the host makes while
`rst` is asserted (R330, R331). Log entries 5 and 13. -/
inductive Event where
  | access (a : Access)
  | engine
  | reset (during : List Access)
deriving DecidableEq, Repr

/-- The state. -/
structure State where
  /-- CTRL.IRQ_EN (R32). -/
  irqEn   : Bool
  /-- CMD read-back (R33). -/
  cmd     : Word
  /-- LCMD, the latched command word (R60). -/
  lcmd    : Word
  /-- STATUS.BUSY (R34). -/
  busy    : Bool
  /-- STATUS.DONE (R35). -/
  done    : Bool
  /-- STATUS.RESULT (R36). -/
  result  : Bool
  /-- STATUS.PATH (R37). -/
  path    : Bool
  /-- STATUS.ILLEGAL (R38). -/
  illegal : Bool
  /-- STATUS.BUSYERR (R39). -/
  busyErr : Bool
  /-- STATUS.ACCERR (R40). -/
  accErr  : Bool
  /-- REASON (R42, R291). -/
  reason  : Reason
  /-- IN_LEN (R43). -/
  inLen   : Word
  /-- SYM_LEN (R44). -/
  symLen  : BitVec 8
  /-- OUT_LEN (R45). -/
  outLen  : BitVec 9
  /-- POLY_RES (R46). -/
  polyRes : BitVec 30
  /-- B58_INFO (R47). -/
  b58Info : B58Info
  /-- B32_INFO (R48). -/
  b32Info : B32Info
  /-- WVER (R49). -/
  wver    : WVer
  /-- CHK_CALC (R50). -/
  chkCalc : Word
  /-- CHK_PAY (R51). -/
  chkPay  : Word
  /-- IN_BUF (R52). -/
  inBuf   : Vector Byte 90
  /-- SYM (R53). -/
  sym     : Vector Byte 192
  /-- PAYLOAD (R54). -/
  payload : Vector Byte 25
  /-- OUT (R55). -/
  out     : Vector Byte 256
  /-- The model's own: the steps of the host and of the engine that are still to come, in order (R94, R271). Log entry 5. -/
  schedule : List Event
  /-- The model's own: the values the host's reads returned, oldest first (R350). Log entry 6. -/
  reads    : List Word
  /-- The model's own: how many free words have been drawn (R92). Log entry 4. -/
  draws    : Nat
deriving DecidableEq, Repr

/-- Why the machine stops with a fault. -/
inductive Fault where
  /-- Raised by the engine's turn (`engineTurn`) when BUSY is 1 and LCMD is no legal word. SAFE: the block latches only legal words
  (R270), so no run from reset reaches it; the spec gives such a state no step. Log entry 9. -/
  | illegalLatch
deriving DecidableEq, Repr

/-- Why an instruction is refused. -/
inductive Refusal where
  /-- Raised by `exec` for an instruction that has no meaning yet. SAFE. No arm of this model raises it. -/
  | notModelled (mnemonic : String)
  /-- Raised by the meaning of REGRP for a term with F or T outside 1..8, which is no command (R114, R117). SAFE: no word decodes to
  one. Log entry 9. -/
  | illegalWidth
deriving DecidableEq, Repr

/-- The state right after reset (R63, R333). -/
def State.reset : State where
  irqEn := false
  cmd := 0
  lcmd := 0
  busy := false
  done := false
  result := false
  path := false
  illegal := false
  busyErr := false
  accErr := false
  reason := .ok
  inLen := 0
  symLen := 0
  outLen := 0
  polyRes := 0
  b58Info := .cleared
  b32Info := .cleared
  wver := .cleared
  chkCalc := 0
  chkPay := 0
  inBuf := Vector.replicate 90 0
  sym := Vector.replicate 192 0
  payload := Vector.replicate 25 0
  out := Vector.replicate 256 0
  schedule := []
  reads := []
  draws := 0

end Sys2Proof.Machine
end

