-- ==== Sys2Proof/Machine/Ops.lean ====
section
/-! DEFINITION. The named operations over the block's registers: the writes of the data registers, the end of a command (R14, R272), the
issue of a legal word (R270), the illegal-command outcome (R274, the block's one synchronous exception, R294), the misuse flags (R294), the
STATUS acknowledge (R41) and reset (R330). -/

namespace Sys2Proof.Machine

/-- The value of a reason code (R291). -/
def reasonCode : Reason → Byte
  | .ok => 0x00
  | .inTooLong => 0x01
  | .b58Len => 0x10
  | .b58Char => 0x11
  | .b58Magic => 0x12
  | .b58Checksum => 0x13
  | .b58NonCanon => 0x14
  | .b32Len => 0x20
  | .b32CharRange => 0x21
  | .b32MixedCase => 0x22
  | .b32NoSep => 0x23
  | .b32EmptyHrp => 0x24
  | .b32ShortData => 0x25
  | .b32Charset => 0x26
  | .b32Checksum => 0x27
  | .regRange => 0x30
  | .regLeftover => 0x31
  | .regPadBits => 0x32
  | .regCapacity => 0x33
  | .segHrp => 0x40
  | .segProgLen => 0x41
  | .segVersion => 0x42
  | .segV0Len => 0x43
  | .polyNotOne => 0x50
  | .illegalCmd => 0xF0

/-- A buffer that holds the sequence `l` from element 0 on and 0 in every element after it (R53, R55, R62). -/
def fill (n : Nat) (l : List Byte) : Vector Byte n := Vector.ofFn fun i => l.getD i.val 0

/-- Write PAYLOAD and B58_INFO (R54, R47). -/
def State.putPayload (pay : Vector Byte 25) (info : B58Info) (s : State) : State :=
  { s with payload := pay, b58Info := info }

/-- Write CHK_CALC and CHK_PAY (R50, R51). -/
def State.putChecksums (computed carried : Word) (s : State) : State :=
  { s with chkCalc := computed, chkPay := carried }

/-- Write SYM_LEN and all of SYM with the sequence `l` (R44, R53). -/
def State.putSymbols (l : List Byte) (s : State) : State :=
  { s with symLen := BitVec.ofNat 8 l.length, sym := fill 192 l }

/-- Write POLY_RES (R46). -/
def State.putPoly (r : BitVec 30) (s : State) : State := { s with polyRes := r }

/-- Write B32_INFO (R48). -/
def State.putB32Info (info : B32Info) (s : State) : State := { s with b32Info := info }

/-- Write OUT_LEN and all of OUT with the sequence `l` (R45, R55). -/
def State.putOut (l : List Byte) (s : State) : State :=
  { s with outLen := BitVec.ofNat 9 l.length, out := fill 256 l }

/-- Write WVER (R49). -/
def State.putWVer (v : WVer) (s : State) : State := { s with wver := v }

/-- Clear IN_LEN and all of IN_BUF (R280). -/
def State.clearInput (s : State) : State := { s with inLen := 0, inBuf := Vector.replicate 90 0 }

/-- The end of a command: `succeed()` when the code is `ok`, `fail(code)` otherwise (R14), the PATH the command's rule writes (R37), and
the engine step's BUSY and DONE (R272). -/
def State.complete (path : Bool) (code : Reason) (s : State) : State :=
  { s with result := decide (code = .ok), path := path, reason := code, busy := false, done := true }

/-- The issue of a legal word (R270). -/
def State.issue (w : Word) (s : State) : State :=
  { s with cmd := w, lcmd := w, done := false, busy := true }

/-- The illegal-command outcome (R274). -/
def State.raiseIllegal (w : Word) (s : State) : State :=
  { s with cmd := w, illegal := true, result := false, path := false, reason := .illegalCmd, done := true }

/-- An access error (R88). -/
def State.accessError (s : State) : State := { s with accErr := true }

/-- A write refused because the engine runs (R91). -/
def State.busyError (s : State) : State := { s with busyErr := true }

/-- A STATUS write of `v`: the write-one-to-clear bits (R41). It is also what stands in for a return from an exception (R306). -/
def State.acknowledge (v : Word) (s : State) : State :=
  { s with
    done := s.done && !v.getLsbD 1
    illegal := s.illegal && !v.getLsbD 8
    busyErr := s.busyErr && !v.getLsbD 9
    accErr := s.accErr && !v.getLsbD 10 }

/-- Reset, one atomic step (R330): every piece of the block's state takes its reset value. What the host is still to do, what it has read
and the free values drawn are no state of the block. -/
def State.resetBlock (s : State) : State :=
  { State.reset with schedule := s.schedule, reads := s.reads, draws := s.draws }

/-- A host read has returned `v`. -/
def State.recordRead (v : Word) (s : State) : State := { s with reads := s.reads ++ [v] }

/-- A free word has been drawn (R92). -/
def State.countDraw (s : State) : State := { s with draws := s.draws + 1 }

/-- The steps still to come. -/
def State.setSchedule (es : List Event) (s : State) : State := { s with schedule := es }

end Sys2Proof.Machine
end

