-- ==== Sys2Proof/Machine/Flags.lean ====
section
/-! DEFINITION. The flags: the STATUS word (R34 to R41), the interrupt line (R300), the words of the INFO registers (R47 to R49), and the
magnitude flags of the base58 decoder (R146, R150). -/

namespace Sys2Proof.Machine

/-- A flag at bit `k` of a register. -/
def flagAt (k : Nat) (b : Bool) : Word := (BitVec.ofBool b).zeroExtend 32 <<< k

/-- A field of any width at bit `k` of a register, unsigned (R10, R112). -/
def fieldAt (k : Nat) {n : Nat} (v : BitVec n) : Word := v.zeroExtend 32 <<< k

/-- The STATUS word: BUSY 0, DONE 1, RESULT 2, PATH 3, ILLEGAL 8, BUSYERR 9, ACCERR 10, every other bit 0 (R34 to R41). -/
def State.statusWord (s : State) : Word :=
  flagAt 0 s.busy ||| flagAt 1 s.done ||| flagAt 2 s.result ||| flagAt 3 s.path |||
  flagAt 8 s.illegal ||| flagAt 9 s.busyErr ||| flagAt 10 s.accErr

/-- The interrupt output `irq` (R300). -/
def State.irq (s : State) : Bool := s.irqEn && s.done

/-- The B58_INFO word (R47). -/
def b58InfoWord (x : B58Info) : Word :=
  flagAt 0 x.invChar ||| flagAt 1 x.ovf ||| flagAt 2 x.canon ||| flagAt 3 x.dec |||
  fieldAt 8 x.zb ||| fieldAt 16 x.lead1 ||| fieldAt 24 x.invPos

/-- The B32_INFO word (R48). -/
def b32InfoWord (x : B32Info) : Word := fieldAt 0 x.sepPos ||| fieldAt 8 x.dataLen ||| flagAt 15 x.sepV

/-- The WVER word (R49). -/
def wverWord (x : WVer) : Word := fieldAt 0 x.ver ||| flagAt 8 x.wv

/-- How many leading elements of `l` equal `c`. -/
def leadingCount (c : Byte) (l : List Byte) : Nat := (l.takeWhile (· == c)).length

/-- `ZB`: the number of leading zero bytes of the payload (R146). -/
def zeroBytes (pay : Vector Byte 25) : Nat := leadingCount 0x00 pay.toList

/-- `LEAD1`: the number of leading '1' characters of the string (R146). -/
def leadOnes (text : List Byte) : Nat := leadingCount 0x31 text

/-- `CANON` from the magnitude flags (R150). -/
def canon (zd : ZeroDigit) (L : Nat) (acc : BitVec 200) (ovf : Bool) (zb lead1 : Nat) : Bool :=
  if ovf then false
  else if acc = 0 ∧ zd = .one then decide (L = 26)
  else decide (lead1 = zb)

/-- B58_INFO of a decode that stopped at an invalid character (R146). -/
def infoInvalid (pos : Nat) : B58Info := { B58Info.cleared with invChar := true, invPos := BitVec.ofNat 7 pos }

/-- B58_INFO of a decode that consumed the whole string (R146). -/
def infoDecoded (zd : ZeroDigit) (L : Nat) (text : List Byte) (acc : BitVec 200) (ovf : Bool) (pay : Vector Byte 25) : B58Info where
  invChar := false
  ovf := ovf
  canon := canon zd L acc ovf (zeroBytes pay) (leadOnes text)
  dec := true
  zb := BitVec.ofNat 5 (zeroBytes pay)
  lead1 := BitVec.ofNat 7 (leadOnes text)
  invPos := 0

end Sys2Proof.Machine
end

