-- ==== Sys2Proof/Machine/Bus.lean ====
section
/-! DEFINITION. The host's side of the window: the offset map (R30, R56), what a read returns (R85, R90, R92), what a write does (R86), the
read-only and the locking registers (R87, R91), the access errors and their order (R88, R89), and the command issue (R270, R274). -/

namespace Sys2Proof.Machine

/-- A mapped offset: a register, or an element of a buffer (R30). -/
inductive Reg where
  | id | ctrl | cmd | status | reason | inLen | symLen | outLen | polyRes | b58Info | b32Info | wver | chkCalc | chkPay
  | inBuf (i : Fin 90)
  | sym (i : Fin 192)
  | payload (i : Fin 25)
  | out (i : Fin 256)
deriving DecidableEq, Repr

/-- The offset column of R30. -/
def regOffset : Reg → Nat
  | .id => 0x000
  | .ctrl => 0x004
  | .cmd => 0x008
  | .status => 0x00C
  | .reason => 0x010
  | .inLen => 0x014
  | .symLen => 0x018
  | .outLen => 0x01C
  | .polyRes => 0x020
  | .b58Info => 0x024
  | .b32Info => 0x028
  | .wver => 0x02C
  | .chkCalc => 0x030
  | .chkPay => 0x034
  | .inBuf i => 0x400 + 4 * i.val
  | .sym i => 0x800 + 4 * i.val
  | .payload i => 0xC00 + 4 * i.val
  | .out i => 0x1000 + 4 * i.val

/-- The register file element at word `k` of a buffer of `n` elements. -/
def elementAt (n k : Nat) (mk : Fin n → Reg) : Option Reg := if h : k < n then some (mk ⟨k, h⟩) else none

/-- The registers of the words 0 to 13 of the window (R30). -/
def fixedRegs : List Reg :=
  [.id, .ctrl, .cmd, .status, .reason, .inLen, .symLen, .outLen, .polyRes, .b58Info, .b32Info, .wver, .chkCalc, .chkPay]

/-- The register at word number `k` of the window, that is at offset `4 * k`; `none` where the offset is unmapped (R30, R56). -/
def regAtWord (k : Nat) : Option Reg :=
  if 0x1000 / 4 ≤ k then elementAt 256 (k - 0x1000 / 4) .out
  else if 0xC00 / 4 ≤ k then elementAt 25 (k - 0xC00 / 4) .payload
  else if 0x800 / 4 ≤ k then elementAt 192 (k - 0x800 / 4) .sym
  else if 0x400 / 4 ≤ k then elementAt 90 (k - 0x400 / 4) .inBuf
  else fixedRegs[k]?

/-- The register an access of offset `off` reaches: `none` for a misaligned or unmapped offset (R82, R88 (a) and (b)). -/
def regAt (off : Offset) : Option Reg := if off.toNat % 4 = 0 then regAtWord (off.toNat / 4) else none

/-- The constant of the ID register (R2, R31). Log entry 12. -/
def idWord : Word := 0x42353844

/-- The current value of a register, reserved bits 0 (R85). -/
def regValue (s : State) : Reg → Word
  | .id => idWord
  | .ctrl => flagAt 0 s.irqEn
  | .cmd => s.cmd
  | .status => s.statusWord
  | .reason => fieldAt 0 (reasonCode s.reason)
  | .inLen => s.inLen
  | .symLen => fieldAt 0 s.symLen
  | .outLen => fieldAt 0 s.outLen
  | .polyRes => fieldAt 0 s.polyRes
  | .b58Info => b58InfoWord s.b58Info
  | .b32Info => b32InfoWord s.b32Info
  | .wver => wverWord s.wver
  | .chkCalc => s.chkCalc
  | .chkPay => s.chkPay
  | .inBuf i => fieldAt 0 s.inBuf[i]
  | .sym i => fieldAt 0 s.sym[i]
  | .payload i => fieldAt 0 s.payload[i]
  | .out i => fieldAt 0 s.out[i]

/-- The read-only registers (R87). -/
def readOnly : Reg → Bool
  | .id | .reason | .outLen | .polyRes | .b58Info | .b32Info | .wver | .chkCalc | .chkPay | .payload _ | .out _ => true
  | .ctrl | .cmd | .status | .inLen | .symLen | .inBuf _ | .sym _ => false

/-- The registers that lock while BUSY is 1 (R39, R91). -/
def locks : Reg → Bool
  | .cmd | .inLen | .symLen | .inBuf _ | .sym _ => true
  | .id | .ctrl | .status | .reason | .outLen | .polyRes | .b58Info | .b32Info | .wver | .chkCalc | .chkPay | .payload _ | .out _ => false

/-- The registers whose reads return defined values while BUSY is 1 (R90); R92 names every other one. -/
def readableWhileBusy : Reg → Bool
  | .id | .ctrl | .cmd | .status => true
  | .reason | .inLen | .symLen | .outLen | .polyRes | .b58Info | .b32Info | .wver | .chkCalc | .chkPay
  | .inBuf _ | .sym _ | .payload _ | .out _ => false

/-- A CMD write while BUSY is 0: the issue of a legal word, the illegal-command outcome of any other (R270, R274). -/
def State.writeCmd (w : Word) (s : State) : State := if legal w then s.issue w else s.raiseIllegal w

/-- The effect of a write that is neither an access error nor refused (R86). A read-only register has none. -/
def storeReg (v : Word) (s : State) : Reg → State
  | .ctrl => { s with irqEn := v.getLsbD 0 }
  | .cmd => s.writeCmd v
  | .status => s.acknowledge v
  | .inLen => { s with inLen := v }
  | .symLen => { s with symLen := v.extractLsb' 0 8 }
  | .inBuf i => { s with inBuf := s.inBuf.set i (v.extractLsb' 0 8) }
  | .sym i => { s with sym := s.sym.set i (v.extractLsb' 0 8) }
  | .id | .reason | .outLen | .polyRes | .b58Info | .b32Info | .wver | .chkCalc | .chkPay | .payload _ | .out _ => s

/-- R88 (e): a SYM_LEN value above 192. -/
def outOfRange (r : Reg) (v : Word) : Bool := decide (r = .symLen) && decide (192 < v.toNat)

/-- A host write: the checks of R89 in order, then the effect of R86. -/
def hostWrite (off : Offset) (strb : Strobe) (v : Word) (s : State) : State :=
  match regAt off with
  | none => s.accessError
  | some r =>
    if strb ≠ 0xF then s.accessError
    else if readOnly r then s.accessError
    else if s.busy && locks r then s.busyError
    else if outOfRange r v then s.accessError
    else storeReg v s r

/-- A host read (R85, R88, R90, R92): the word it returns and the state after it. The word of a register of R92 while BUSY is 1 is a free
value (log entry 4). -/
def hostRead (off : Offset) (s : State) : Word × State :=
  match regAt off with
  | none => (0, s.accessError)
  | some r =>
    if s.busy && !readableWhileBusy r then (Config.busyRead s.draws, s.countDraw)
    else (regValue s r, s)

/-- One host access (R93); a read's word joins the observation (R350). -/
def hostAccess (a : Access) (s : State) : State :=
  match a with
  | .write off strb v => hostWrite off strb v s
  | .read off => (hostRead off s).2.recordRead (hostRead off s).1

/-- A host access while `rst` is asserted (R331): a write has no effect and sets no flag, a read returns the reset value of its register.
Log entry 13. -/
def accessInReset (s : State) (a : Access) : State :=
  match a with
  | .write _ _ _ => s
  | .read off =>
    match regAt off with
    | none => s.recordRead 0
    | some r => s.recordRead (regValue State.reset r)

/-- Reset with the accesses made while it is asserted (R330, R331). -/
def hostReset (during : List Access) (s : State) : State := during.foldl accessInReset s.resetBlock

end Sys2Proof.Machine
end

