-- ==== Sys2Proof/Machine/Operands.lean ====
section
/-! DEFINITION. The operands of the commands: the address string, the symbols, the network tables (R240), ASCII folding (R15), and the
table of the registers each command reads and writes (R61). -/

namespace Sys2Proof.Machine

/-- The stored characters of the address string, `IN[0..min(L, 90))` (R43). -/
def State.text (s : State) : List Byte := s.inBuf.toList.take s.inLen.toNat

/-- `SYM[0..SYM_LEN)` (R44, R53). -/
def State.symbols (s : State) : List Byte := s.sym.toList.take s.symLen.toNat

/-- `SYM[min(S, K)..K)`, the regrouper's input (R115, R212). -/
def skipFirst (skip : Bool) (l : List Byte) : List Byte := if skip then l.drop 1 else l

/-- `MAGIC(N)` (R240). -/
def magicBytes : Network → List Byte
  | .mainnet => [0x00, 0x05]
  | .testnet => [0x6F, 0xC4]

/-- `HRP(N)`: "bc" and "tb" (R240). -/
def hrpBytes : Network → List Byte
  | .mainnet => [0x62, 0x63]
  | .testnet => [0x74, 0x62]

/-- `isUpper` (R15). -/
def isUpper (c : Byte) : Bool := decide (0x41 ≤ c.toNat) && decide (c.toNat ≤ 0x5A)

/-- `isLower` (R15). -/
def isLower (c : Byte) : Bool := decide (0x61 ≤ c.toNat) && decide (c.toNat ≤ 0x7A)

/-- ASCII lower-case folding of one byte (R15). -/
def fold (c : Byte) : Byte := if isUpper c then c + 0x20 else c

/-- The naturals of a byte sequence: no value is sign-extended (R10). -/
def naturals (l : List Byte) : List Nat := l.map BitVec.toNat

/-- The registers and buffers that commands read or write (R61). -/
inductive DataReg where
  | inLen | inBuf | symLen | sym | outLen | out | payload | polyRes | b58Info | b32Info | wver | chkCalc | chkPay
deriving DecidableEq, Repr

/-- The outputs of the base58 side (R253). -/
def base58Outputs : List DataReg := [.payload, .b58Info, .chkCalc, .chkPay]

/-- The outputs of the bech32 side (R253). -/
def bech32Outputs : List DataReg := [.symLen, .sym, .polyRes, .b32Info, .outLen, .out, .wver]

/-- The inputs column of R61, without the fields of the command word. -/
def inputs : Instr → List DataReg
  | .clr => []
  | .b58dec => [.inLen, .inBuf]
  | .b58chk _ => [.inLen, .inBuf]
  | .poly => [.symLen, .sym]
  | .hrpx => [.inLen, .inBuf]
  | .b32dec => [.inLen, .inBuf]
  | .regrp _ _ _ _ => [.symLen, .sym]
  | .segwit _ => [.inLen, .inBuf]
  | .validate _ => [.inLen, .inBuf]

/-- The outputs column of R61. -/
def outputs : Instr → List DataReg
  | .clr => [.inLen, .inBuf] ++ bech32Outputs ++ base58Outputs
  | .b58dec => [.payload, .b58Info]
  | .b58chk _ => base58Outputs
  | .poly => [.polyRes]
  | .hrpx => [.symLen, .sym]
  | .b32dec => [.symLen, .sym, .polyRes, .b32Info]
  | .regrp _ _ _ _ => [.outLen, .out]
  | .segwit _ => bech32Outputs
  | .validate _ => base58Outputs ++ bech32Outputs

/-- Two states hold the same value in a data register. -/
def sameReg (s t : State) : DataReg → Prop
  | .inLen => s.inLen = t.inLen
  | .inBuf => s.inBuf = t.inBuf
  | .symLen => s.symLen = t.symLen
  | .sym => s.sym = t.sym
  | .outLen => s.outLen = t.outLen
  | .out => s.out = t.out
  | .payload => s.payload = t.payload
  | .polyRes => s.polyRes = t.polyRes
  | .b58Info => s.b58Info = t.b58Info
  | .b32Info => s.b32Info = t.b32Info
  | .wver => s.wver = t.wver
  | .chkCalc => s.chkCalc = t.chkCalc
  | .chkPay => s.chkPay = t.chkPay

/-- Give a data register its cleared value (R62). -/
def clearReg (s : State) : DataReg → State
  | .inLen => { s with inLen := 0 }
  | .inBuf => { s with inBuf := Vector.replicate 90 0 }
  | .symLen => { s with symLen := 0 }
  | .sym => { s with sym := Vector.replicate 192 0 }
  | .outLen => { s with outLen := 0 }
  | .out => { s with out := Vector.replicate 256 0 }
  | .payload => { s with payload := Vector.replicate 25 0 }
  | .polyRes => { s with polyRes := 0 }
  | .b58Info => { s with b58Info := .cleared }
  | .b32Info => { s with b32Info := .cleared }
  | .wver => { s with wver := .cleared }
  | .chkCalc => { s with chkCalc := 0 }
  | .chkPay => { s with chkPay := 0 }

/-- "clear every output of LCMD's command to 0" (R272, R61, R62). -/
def clearOutputs (i : Instr) (s : State) : State := (outputs i).foldl clearReg s

end Sys2Proof.Machine
end

