-- ==== Sys2Proof/Machine/Base58.lean ====
section
/-! DEFINITION. The base58_decoder unit: the alphabet (R140), the decoder's loop (R142, R143), the payload (R145), B58DEC (R148), and the
reference functions `Value58` (R141) and `Base58Encode` (R147), which no command computes. -/

namespace Sys2Proof.Machine

/-- The base58 alphabet, digit 0 first (R140). -/
def alphabet58 : List Byte :=
  [0x31, 0x32, 0x33, 0x34, 0x35, 0x36, 0x37, 0x38, 0x39] ++
  [0x41, 0x42, 0x43, 0x44, 0x45, 0x46, 0x47, 0x48] ++
  [0x4A, 0x4B, 0x4C, 0x4D, 0x4E] ++
  [0x50, 0x51, 0x52, 0x53, 0x54, 0x55, 0x56, 0x57, 0x58, 0x59, 0x5A] ++
  [0x61, 0x62, 0x63, 0x64, 0x65, 0x66, 0x67, 0x68, 0x69, 0x6A, 0x6B] ++
  [0x6D, 0x6E, 0x6F, 0x70, 0x71, 0x72, 0x73, 0x74, 0x75, 0x76, 0x77, 0x78, 0x79, 0x7A]

/-- `DIGIT58(c)`; `none` is the spec's NONE (R140). -/
def digit58 (c : Byte) : Option Nat := alphabet58.idxOf? c

/-- `ALPHA58[k]` (R147). -/
def alpha58 (k : Nat) : Byte := alphabet58.getD k 0

/-- Where the decoder's loop ends: at the first invalid character, or at the end of the string with the accumulator and the sticky overflow
flag (R142, R143). -/
inductive Scan58 where
  | invalid (pos : Nat)
  | decoded (acc : BitVec 200) (ovf : Bool)
deriving DecidableEq, Repr

/-- The decoder's loop from character `i` on (R143, R148). -/
def scan58 : List Byte → Nat → BitVec 200 → Bool → Scan58
  | [], _, acc, ovf => .decoded acc ovf
  | c :: cs, i, acc, ovf =>
    match digit58 c with
    | none => .invalid i
    | some d => scan58 cs (i + 1) (BitVec.ofNat 200 (acc.toNat * 58 + d)) (ovf || decide (2 ^ 200 ≤ acc.toNat * 58 + d))

/-- The payload: `acc` in 25 bytes, big-endian (R145). -/
def payloadOf (acc : BitVec 200) : Vector Byte 25 := Vector.ofFn fun j => acc.extractLsb' (8 * (24 - j.val)) 8

/-- What the B58DEC steps leave: PAYLOAD, B58_INFO and the reason code, `ok` when the string was consumed. -/
structure Decode58 where
  payload : Vector Byte 25
  info    : B58Info
  reason  : Reason
deriving DecidableEq, Repr

/-- The outputs of a base58 decode that wrote nothing (R62). -/
def cleared58 (r : Reason) : Decode58 := { payload := Vector.replicate 25 0, info := .cleared, reason := r }

/-- The B58DEC steps from `acc = 0` up to, not including, `succeed()` (R148, R244). -/
def decodeSteps58 (zd : ZeroDigit) (L : Nat) (text : List Byte) : Decode58 :=
  match scan58 text 0 0 false with
  | .invalid pos => { cleared58 .b58Char with info := infoInvalid pos }
  | .decoded acc ovf => { payload := payloadOf acc, info := infoDecoded zd L text acc ovf (payloadOf acc), reason := .ok }

/-- The rule of B58DEC on a string of length `L` whose stored characters are `text` (R148, R149). -/
def b58decOf (zd : ZeroDigit) (L : Nat) (text : List Byte) : Decode58 :=
  if 90 < L then cleared58 .inTooLong else decodeSteps58 zd L text

/-- The completion of B58DEC under given parameters (R148, R272). -/
def b58decDone (p : Params) (s : State) : State :=
  let r := b58decOf p.zeroDigit s.inLen.toNat s.text
  (s.putPayload r.payload r.info).complete false r.reason

/-- `B58DEC` (R148). -/
def execB58dec (s : State) : Host.Outcome State Fault Refusal := .next (b58decDone Config.params s)

/-- `Value58(s)`, unbounded; a byte outside the alphabet counts as digit 0 (R141 states it for valid strings only). -/
def value58 (l : List Byte) : Nat := l.foldl (fun n c => n * 58 + (digit58 c).getD 0) 0

/-- Every byte of the string is in the alphabet (R141). -/
def valid58 (l : List Byte) : Bool := l.all fun c => (digit58 c).isSome

/-- The big-endian integer of a byte sequence (R147). -/
def bytesValue (b : List Byte) : Nat := b.foldl (fun n x => n * 256 + x.toNat) 0

/-- The digit loop of `Base58Encode`: the base58 digits of `m`, most significant first (R147). `fuel` bounds the number of digits; `m`
itself is always enough. -/
def digits58 : (fuel m : Nat) → List Byte → List Byte
  | 0, _, ds => ds
  | k + 1, m, ds => if m = 0 then ds else digits58 k (m / 58) (alpha58 (m % 58) :: ds)

/-- `Base58Encode(b)`, the reference function (R147). A number below 256^n has at most 2n base58 digits, which is the fuel. -/
def base58Encode (zd : ZeroDigit) (b : List Byte) : List Byte :=
  let m := bytesValue b
  List.replicate (leadingCount 0x00 b) 0x31 ++
    (if m = 0 ∧ 0 < b.length ∧ zd = .one then [0x31] else digits58 (2 * b.length) m [])

end Sys2Proof.Machine
end

