-- ==== Sys2Proof/Machine/Bech32.lean ====
section
/-! DEFINITION. The bech32 units: the polymod checksum (R170 to R175) with POLY (R176), HRPX (R180) and B32DEC (R197), the 5-to-8
regrouper (R210) with REGRP (R212), and the segwit decode that combines them (R222). -/

namespace Sys2Proof.Machine

/-- The bech32 charset, index 0 first (R170). -/
def charset32 : List Byte :=
  [0x71, 0x70, 0x7A, 0x72, 0x79, 0x39, 0x78, 0x38] ++
  [0x67, 0x66, 0x32, 0x74, 0x76, 0x64, 0x77, 0x30] ++
  [0x73, 0x33, 0x6A, 0x6E, 0x35, 0x34, 0x6B, 0x68] ++
  [0x63, 0x65, 0x36, 0x6D, 0x75, 0x61, 0x37, 0x6C]

/-- `CHARSET5(c)`; `none` is the spec's NONE (R170). -/
def charset5 (c : Byte) : Option Nat := charset32.idxOf? c

/-- The symbols of a data part; `none` when some character is outside the charset (R195, R197). -/
def symbolsOf : List Byte → Option (List Byte)
  | [] => some []
  | c :: cs =>
    match charset5 c, symbolsOf cs with
    | some v, some vs => some (BitVec.ofNat 8 v :: vs)
    | _, _ => none

/-- The generator constants (R171). -/
def gen : List Nat := [0x3b6a57b2, 0x26508e6d, 0x1ea119fa, 0x3d4233dd, 0x2a1462b3]

/-- `if b[i] == 1: chk = chk ^ GEN[i]`, for the constants `gs` from index `i` on (R172). -/
def xorGens (b : Nat) : (i : Nat) → List Nat → Nat → Nat
  | _, [], chk => chk
  | i, g :: gs, chk => xorGens b (i + 1) gs (if b.testBit i then chk ^^^ g else chk)

/-- One step of `polymod` (R172). -/
def polymodStep (chk v : Nat) : Nat := xorGens (chk >>> 25) 0 gen (((chk &&& 0x1FFFFFF) <<< 5) ^^^ v)

/-- `polymod(vs)` (R172). -/
def polymod (vs : List Nat) : Nat := vs.foldl polymodStep 1

/-- `hrp_expand(h)` (R174). -/
def hrpExpand (h : List Byte) : List Byte := (h.map fun c : Byte => c >>> (5 : Nat)) ++ [0] ++ (h.map fun c : Byte => c &&& 31)

/-- `verify_checksum(h, data)` (R175). -/
def verifyChecksum (h data : List Byte) : Bool := polymod (naturals (hrpExpand h ++ data)) == 1

/-- The completion of POLY (R176). -/
def polyDone (s : State) : State :=
  let r := polymod (naturals s.symbols)
  (s.putPoly (BitVec.ofNat 30 r)).complete false (if r = 1 then .ok else .polyNotOne)

/-- `POLY` (R176). -/
def execPoly (s : State) : Host.Outcome State Fault Refusal := .next (polyDone s)

/-- The completion of HRPX (R180). -/
def hrpxDone (s : State) : State :=
  if 90 < s.inLen.toNat then (s.putSymbols []).complete false .inTooLong
  else (s.putSymbols (hrpExpand s.text)).complete false .ok

/-- `HRPX` (R180). -/
def execHrpx (s : State) : Host.Outcome State Fault Refusal := .next (hrpxDone s)

/-- The range check fails at this byte (R190). -/
def outside32 (c : Byte) : Bool := decide (c.toNat < 0x21) || decide (0x7E < c.toNat)

/-- The mixed-case check fails for this string (R191). -/
def mixedCase (l : List Byte) : Bool := l.any isUpper && l.any isLower

/-- The index of the last '1' (R192). -/
def lastOne : List Byte → Option Nat
  | [] => none
  | c :: cs =>
    match lastOne cs with
    | some i => some (i + 1)
    | none => if c = 0x31 then some 0 else none

/-- What the B32DEC steps leave: B32_INFO, POLY_RES, the symbols without the checksum, the folded HRP, and the reason code, `ok` when the
end was reached. -/
structure Decode32 where
  info    : B32Info
  polyRes : BitVec 30
  syms    : List Byte
  hrp     : List Byte
  reason  : Reason
deriving DecidableEq, Repr

/-- The outputs of a bech32 decode that wrote nothing (R62). -/
def cleared32 (r : Reason) : Decode32 := { info := .cleared, polyRes := 0, syms := [], hrp := [], reason := r }

/-- B32_INFO once the separator is found (R197, R198). -/
def infoFound (pos d : Nat) : B32Info := { sepPos := BitVec.ofNat 7 pos, dataLen := BitVec.ofNat 7 d, sepV := true }

/-- The B32DEC steps after the charset check: the checksum (R197). -/
def checksumSteps (info : B32Info) (hrp data : List Byte) : Decode32 :=
  let r := polymod (naturals (hrpExpand hrp ++ data))
  if r ≠ 1 then { cleared32 .b32Checksum with info := info, polyRes := BitVec.ofNat 30 r }
  else { info := info, polyRes := BitVec.ofNat 30 r, syms := data.take (data.length - 6), hrp := hrp, reason := .ok }

/-- The B32DEC steps once the separator of the folded string `lc` is found at `pos` (R197). -/
def separatedSteps (emptyOk : Bool) (L : Nat) (lc : List Byte) (pos : Nat) : Decode32 :=
  let d := L - pos - 1
  let info := infoFound pos d
  if pos = 0 ∧ emptyOk = false then { cleared32 .b32EmptyHrp with info := info }
  else if d < 6 then { cleared32 .b32ShortData with info := info }
  else
    match symbolsOf (lc.drop (pos + 1)) with
    | none => { cleared32 .b32Charset with info := info }
    | some data => checksumSteps info (lc.take pos) data

/-- The rule of B32DEC up to, not including, `succeed()`, on a string of length `L` whose stored characters are `text` (R197). -/
def decode32 (emptyOk : Bool) (L : Nat) (text : List Byte) : Decode32 :=
  if 90 < L then cleared32 .b32Len
  else if text.any outside32 then cleared32 .b32CharRange
  else if mixedCase text then cleared32 .b32MixedCase
  else
    match lastOne (text.map fold) with
    | none => cleared32 .b32NoSep
    | some pos => separatedSteps emptyOk L (text.map fold) pos

/-- Write the outputs of the B32DEC steps (R61). -/
def State.putDecode32 (r : Decode32) (s : State) : State := ((s.putSymbols r.syms).putPoly r.polyRes).putB32Info r.info

/-- The completion of B32DEC under given parameters (R197, R272). -/
def b32decDone (p : Params) (s : State) : State :=
  let r := decode32 p.emptyHrpOk s.inLen.toNat s.text
  (s.putDecode32 r).complete false r.reason

/-- `B32DEC` (R197). -/
def execB32dec (s : State) : Host.Outcome State Fault Refusal := .next (b32decDone Config.params s)

/-- The results of `convert_bits` (R210). -/
inductive Regrouped where
  | values (vs : List Nat)
  | failRange
  | failLeftover
  | failPadBits
deriving DecidableEq, Repr

/-- `maxv = 2^t - 1` (R210). -/
def maxv (t : Nat) : Nat := 2 ^ t - 1

/-- The inner loop of `convert_bits`: while `bits >= t`, one value of `t` bits from the top; the values and the bits left (R210). With
`1 <= t` each round takes at least one bit, so `fuel = bits` never runs out. -/
def drain (t acc : Nat) : (fuel bits : Nat) → List Nat × Nat
  | 0, bits => ([], bits)
  | k + 1, bits =>
    if t ≤ bits then
      let rest := drain t acc k (bits - t)
      (((acc >>> (bits - t)) &&& maxv t) :: rest.1, rest.2)
    else ([], bits)

/-- The outer loop of `convert_bits` from the accumulator `acc` with `bits` bits pending: the values, the accumulator and the bits left at
the end; `none` is FAIL_RANGE (R210). -/
def regroupLoop (f t : Nat) : List Nat → (acc bits : Nat) → Option (List Nat × Nat × Nat)
  | [], acc, bits => some ([], acc, bits)
  | v :: vs, acc, bits =>
    if v >>> f ≠ 0 then none
    else
      let acc' := ((acc <<< f) ||| v) &&& (2 ^ (f + t - 1) - 1)
      let out := drain t acc' (bits + f) (bits + f)
      match regroupLoop f t vs acc' out.2 with
      | none => none
      | some (rest, accEnd, bitsEnd) => some (out.1 ++ rest, accEnd, bitsEnd)

/-- `convert_bits(data, f, t, pad)` (R210). -/
def convertBits (data : List Nat) (f t : Nat) (pad : Bool) : Regrouped :=
  match regroupLoop f t data 0 0 with
  | none => .failRange
  | some (vs, acc, bits) =>
    if pad then .values (if 0 < bits then vs ++ [(acc <<< (t - bits)) &&& maxv t] else vs)
    else if f ≤ bits then .failLeftover
    else if (acc <<< (t - bits)) &&& maxv t ≠ 0 then .failPadBits
    else .values vs

/-- The bytes of output values, each below 2^8 (R212). -/
def bytesOf (vs : List Nat) : List Byte := vs.map (BitVec.ofNat 8)

/-- The regrouper's values for OUT and its reason code (R212, R213). -/
def regrpOf (data : List Byte) (f t : Nat) (pad : Bool) : List Byte × Reason :=
  match convertBits (naturals data) f t pad with
  | .failRange => ([], .regRange)
  | .failLeftover => ([], .regLeftover)
  | .failPadBits => ([], .regPadBits)
  | .values vs => if 256 < vs.length then ([], .regCapacity) else (bytesOf vs, .ok)

/-- The completion of REGRP (R212). -/
def regrpDone (f t : Nat) (pad skip : Bool) (s : State) : State :=
  let r := regrpOf (skipFirst skip s.symbols) f t pad
  (s.putOut r.1).complete false r.2

/-- `REGRP` (R212). A term with a width outside 1..8 is no command (R114): no word decodes to it. -/
def execRegrp (f t : BitVec 4) (pad skip : Bool) (s : State) : Host.Outcome State Fault Refusal :=
  if widthOk f && widthOk t then .next (regrpDone f.toNat t.toNat pad skip s) else .refused .illegalWidth

/-- What the SEGWIT steps leave: the B32DEC outputs, WVER, the values for OUT, and the reason code. -/
structure DecodeSeg where
  b32    : Decode32
  wver   : WVer
  out    : List Byte
  reason : Reason
deriving DecidableEq, Repr

/-- WVER once the HRP has passed: the version symbol, if there is one (R221). -/
def wverOf (syms : List Byte) : WVer :=
  match syms with
  | [] => .cleared
  | v :: _ => { ver := v.extractLsb' 0 5, wv := true }

/-- The checks on the program's length and the version, in order (R222). -/
def programReason (ver M : Nat) : Reason :=
  if M < 2 ∨ 40 < M then .segProgLen
  else if 16 < ver then .segVersion
  else if ver = 0 ∧ M ≠ 20 ∧ M ≠ 32 then .segV0Len
  else .ok

/-- The SEGWIT steps once the HRP has passed (R222). -/
def programSteps (b : Decode32) : DecodeSeg :=
  let wver := wverOf b.syms
  match convertBits (naturals (b.syms.drop 1)) 5 8 false with
  | .failRange => { b32 := b, wver := wver, out := [], reason := .regRange }
  | .failLeftover => { b32 := b, wver := wver, out := [], reason := .regLeftover }
  | .failPadBits => { b32 := b, wver := wver, out := [], reason := .regPadBits }
  | .values vs => { b32 := b, wver := wver, out := bytesOf vs, reason := programReason wver.ver.toNat vs.length }

/-- The rule of SEGWIT for network `n` (R222). -/
def segwitOf (emptyOk : Bool) (n : Network) (L : Nat) (text : List Byte) : DecodeSeg :=
  let b := decode32 emptyOk L text
  if b.reason ≠ .ok then { b32 := b, wver := .cleared, out := [], reason := b.reason }
  else if b.hrp ≠ hrpBytes n then { b32 := b, wver := .cleared, out := [], reason := .segHrp }
  else programSteps b

/-- Write the outputs of the SEGWIT steps (R61). -/
def State.putSegwit (r : DecodeSeg) (s : State) : State := ((s.putDecode32 r.b32).putOut r.out).putWVer r.wver

/-- The completion of SEGWIT under given parameters (R222, R272). -/
def segwitDone (p : Params) (n : Network) (s : State) : State :=
  let r := segwitOf p.emptyHrpOk n s.inLen.toNat s.text
  (s.putSegwit r).complete false r.reason

/-- `SEGWIT` (R222). -/
def execSegwit (n : Network) (s : State) : Host.Outcome State Fault Refusal := .next (segwitDone Config.params n s)

end Sys2Proof.Machine
end

