-- ==== Sys2Proof/Machine/Control.lean ====
section
/-! DEFINITION. The control command CLR (R280). -/

namespace Sys2Proof.Machine

/-- Every data register and buffer at its cleared value (R280). -/
def State.clearData (s : State) : State :=
  ((((((s.clearInput.putSymbols []).putOut []).putPayload (Vector.replicate 25 0) .cleared).putPoly 0).putB32Info .cleared).putWVer
    .cleared).putChecksums 0 0

/-- `CLR` (R280). -/
def execClr (s : State) : Host.Outcome State Fault Refusal := .next (s.clearData.complete false .ok)

end Sys2Proof.Machine
end

