-- ==== Sys2Proof/Machine/Validator.lean ====
section
/-! DEFINITION. The checksum validator mux: the base58 checksum (R243) with B58CHK (R244), and the dispatch (R250) with VALIDATE (R252). -/

namespace Sys2Proof.Machine

/-- Four bytes in one word, the first in bits 31:24 (R50, R51, R84 (c)). -/
def packBytes (a b c d : Byte) : Word := a ++ b ++ c ++ d

/-- CHK_CALC: the first 4 bytes of `sha256(sha256(PAY[0..21)))` (R50, R243). -/
def checkComputed (sha : List Byte → Vector Byte 32) (pay : Vector Byte 25) : Word :=
  let h := sha (sha (pay.toList.take 21)).toList
  packBytes h[0] h[1] h[2] h[3]

/-- CHK_PAY: the trailing 4 payload bytes (R51, R242). -/
def checkCarried (pay : Vector Byte 25) : Word := packBytes pay[21] pay[22] pay[23] pay[24]

/-- What the B58CHK steps leave: PAYLOAD, B58_INFO, CHK_CALC, CHK_PAY and the reason code. -/
structure Check58 where
  dec      : Decode58
  computed : Word
  carried  : Word
  reason   : Reason
deriving DecidableEq, Repr

/-- Steps 4 and 5 of B58CHK: the checksum and the canonical form (R244, R246). -/
def checksum58Reason (computed carried : Word) (canonical : Bool) : Reason :=
  if computed ≠ carried then .b58Checksum else if canonical = false then .b58NonCanon else .ok

/-- The rule of B58CHK for network `n` (R244). -/
def b58chkOf (p : Params) (n : Network) (L : Nat) (text : List Byte) : Check58 :=
  if L < 27 ∨ 35 < L then { dec := cleared58 .b58Len, computed := 0, carried := 0, reason := .b58Len }
  else
    let d := decodeSteps58 p.zeroDigit L text
    if d.reason ≠ .ok then { dec := d, computed := 0, carried := 0, reason := d.reason }
    else if d.payload[0] ∉ magicBytes n then { dec := d, computed := 0, carried := 0, reason := .b58Magic }
    else
      { dec := d, computed := checkComputed p.sha256 d.payload, carried := checkCarried d.payload,
        reason := checksum58Reason (checkComputed p.sha256 d.payload) (checkCarried d.payload) d.info.canon }

/-- Write the outputs of the B58CHK steps (R61). -/
def State.putCheck58 (r : Check58) (s : State) : State := (s.putPayload r.dec.payload r.dec.info).putChecksums r.computed r.carried

/-- The completion of B58CHK under given parameters (R244, R272). -/
def b58chkDone (p : Params) (n : Network) (s : State) : State :=
  let r := b58chkOf p n s.inLen.toNat s.text
  (s.putCheck58 r).complete false r.reason

/-- `B58CHK` (R244). -/
def execB58chk (n : Network) (s : State) : Host.Outcome State Fault Refusal := .next (b58chkDone Config.params n s)

/-- The dispatch: the bech32 path is taken when the first two characters fold to `HRP(N)` (R250). -/
def takesBech32 (n : Network) (L : Nat) (text : List Byte) : Bool :=
  decide (2 ≤ L) && ((text.take 2).map fold == hrpBytes n)

/-- Give the base58 outputs their cleared values (R253). -/
def State.clearBase58 (s : State) : State := (s.putPayload (Vector.replicate 25 0) .cleared).putChecksums 0 0

/-- Give the bech32 outputs their cleared values (R253). -/
def State.clearBech32 (s : State) : State := ((s.putDecode32 (cleared32 .ok)).putOut []).putWVer .cleared

/-- The completion of VALIDATE under given parameters (R252, R272). -/
def validateDone (p : Params) (n : Network) (s : State) : State :=
  if takesBech32 n s.inLen.toNat s.text then
    let r := segwitOf p.emptyHrpOk n s.inLen.toNat s.text
    (s.clearBase58.putSegwit r).complete true r.reason
  else
    let r := b58chkOf p n s.inLen.toNat s.text
    (s.clearBech32.putCheck58 r).complete false r.reason

/-- `VALIDATE` (R252). -/
def execValidate (n : Network) (s : State) : Host.Outcome State Fault Refusal := .next (validateDone Config.params n s)

end Sys2Proof.Machine
end

