-- ==== Sys2Proof/Machine/Dispatch.lean ====
section
/-! DEFINITION. The completion of a command, the engine step of R272: one arm per command. -/

namespace Sys2Proof.Machine

def exec (i : Instr) (s : State) : Host.Outcome State Fault Refusal :=
  match i with
  | .clr => Sys2Proof.Machine.execClr s
  | .b58dec => Sys2Proof.Machine.execB58dec s
  | .b58chk n => Sys2Proof.Machine.execB58chk n s
  | .poly => Sys2Proof.Machine.execPoly s
  | .hrpx => Sys2Proof.Machine.execHrpx s
  | .b32dec => Sys2Proof.Machine.execB32dec s
  | .regrp f t pad skip => Sys2Proof.Machine.execRegrp f t pad skip s
  | .segwit n => Sys2Proof.Machine.execSegwit n s
  | .validate n => Sys2Proof.Machine.execValidate n s

end Sys2Proof.Machine
end

