-- ==== Sys2Proof/Machine/Engine.lean ====
section
/-! DEFINITION. The transition system (R285): the engine's turn (R271, R272), the host's steps and resets in the order the schedule gives
(R94), the end of the schedule (R347, R350), and how a word is put before the engine. -/

namespace Sys2Proof.Machine

/-- The engine's turn (R271, R272): when BUSY is 1 it decodes LCMD and completes its command; when BUSY is 0 the engine has no step. -/
def engineTurn (s : State) : Host.Outcome State Fault Refusal :=
  if s.busy then
    match decode s.lcmd with
    | .ok i => exec i s
    | .error _ => .fault .illegalLatch
  else .next s

/-- The step an event stands for (R271, R285). -/
def runEvent (e : Event) (s : State) : Host.Outcome State Fault Refusal :=
  match e with
  | .access a => .next (hostAccess a s)
  | .reset during => .next (hostReset during s)
  | .engine => engineTurn s

/-- One step of the machine: the next event of the schedule; with none left, the host has made its last access and only the engine can
move (R347, R350). Log entries 5 and 8. -/
def advance (s : State) : Host.Outcome State Fault Refusal :=
  match s.schedule with
  | [] => engineTurn s
  | e :: rest => runEvent e (s.setSchedule rest)

/-- `s` with the word `w` where the very next step acts on it. A legal word stands latched as its issue leaves it (R270), with the engine
to move; a word that is not legal never reaches the engine, so it stands as the host's next CMD write (R274). Log entry 7. -/
def State.present (w : Word) (s : State) : State :=
  if legal w then (s.issue w).setSchedule (.engine :: s.schedule)
  else { s with busy := false, schedule := .access (.write 0x008 0xF w) :: s.schedule }

end Sys2Proof.Machine
end

