-- ==== Sys2Proof/Machine/Step.lean ====
section
/-! DEFINITION. One step of the machine, and where its next command word stands. -/

namespace Sys2Proof.Machine

/-- One step (R285). -/
def step : State → Host.Outcome State Fault Refusal := Sys2Proof.Machine.advance

/-- `s` with the command word `w`, numbered as the opcode table numbers its bits, where `step` runs it next. A command is one 32-bit word
(R110); the bits above `nbits` are 0. -/
def State.withFetchWord (s : State) (nbits w : Nat) : State :=
  Sys2Proof.Machine.State.present (BitVec.ofNat 32 (w % 2 ^ nbits)) s

end Sys2Proof.Machine
end

