-- ==== Sys2Proof/Safety.lean ====
section
/-! DEFINITION. What counts as a good state of the block, in the terms the claims use: the invariant of every run, readiness for a command
(R335), the end of a run (R350), whose turn it is, and the reference functions the claims compare the commands with. -/

namespace Sys2Proof.Machine

/-- The relations between the fields that reset establishes and every step keeps. -/
structure State.Inv (s : State) : Prop where
  /-- DONE is 0 while BUSY is 1 (R35, R302, R346). -/
  busy_done : s.busy = true → s.done = false
  /-- While BUSY is 1, LCMD equals CMD (R33, R60). -/
  busy_latch : s.busy = true → s.lcmd = s.cmd
  /-- The block latches only legal words (R270). -/
  busy_legal : s.busy = true → legal s.lcmd = true
  /-- `0 <= K <= 192` (R44). -/
  symLen_le : s.symLen.toNat ≤ 192
  /-- `0 <= M <= 256` (R45). -/
  outLen_le : s.outLen.toNat ≤ 256
  /-- The ranges of B58_INFO (R47). -/
  zb_le : s.b58Info.zb.toNat ≤ 25
  lead1_le : s.b58Info.lead1.toNat ≤ 90
  invPos_le : s.b58Info.invPos.toNat ≤ 89
  /-- The decode did not both stop and run to its end (R146). -/
  dec_excl : ¬ (s.b58Info.invChar = true ∧ s.b58Info.dec = true)
  /-- The ranges of B32_INFO (R48). -/
  sepPos_le : s.b32Info.sepPos.toNat ≤ 89
  dataLen_le : s.b32Info.dataLen.toNat ≤ 89
  /-- OUT is 0 from OUT_LEN on (R55). -/
  out_tail : ∀ i : Fin 256, s.outLen.toNat ≤ i.val → s.out[i] = 0
  /-- VER is 0 unless WV says it holds a symbol (R49, R221). -/
  wver_clear : s.wver.wv = false → s.wver.ver = 0
  /-- RESULT 1 has REASON 0x00 (R64, R292). -/
  result_ok : s.result = true → s.reason = .ok
  /-- On an idle block, REASON 0x00 with RESULT 0 is the state after reset, before any word was written to CMD (R64, R274). -/
  ok_result : s.busy = false → s.reason = .ok → s.result = false → s.cmd = 0 ∧ s.done = false
  /-- PATH is 1 only after a VALIDATE (R37). -/
  path_validate : s.busy = false → s.path = true → ∃ n, decode s.cmd = .ok (.validate n)

/-- The commands for which a string longer than 90 characters is defined (R344): those that read the string. Log entry 20. -/
def longStringDefined : Instr → Bool
  | .clr => false
  | .b58dec => true
  | .b58chk _ => true
  | .poly => false
  | .hrpx => true
  | .b32dec => true
  | .regrp _ _ _ _ => false
  | .segwit _ => true
  | .validate _ => true

/-- A model's launch premise "the block is ready for a command" (R335), for the command `i` with the inputs that `want` holds: BUSY and the
misuse flags are 0, IN_LEN is at most 90 unless the command defines a longer string, and the command's inputs hold the intended values. -/
structure State.ready (s : State) (i : Instr) (want : State) : Prop where
  idle : s.busy = false
  illegal_clear : s.illegal = false
  busyErr_clear : s.busyErr = false
  accErr_clear : s.accErr = false
  length : s.inLen.toNat ≤ 90 ∨ longStringDefined i = true
  intended : ∀ r ∈ inputs i, sameReg s want r

/-- The run has ended: the host has made its last access and BUSY is 0 (R350). -/
def State.ended (s : State) : Bool := s.schedule.isEmpty && !s.busy

/-- The accesses `as`, one after another (R94). -/
def accesses (as : List Access) (s : State) : State := as.foldl (fun u a => hostAccess a u) s

/-- The word an access returns while `rst` is asserted: the reset value of its register, 0 or the ID constant (R331). -/
def resetWord : Access → Option Word
  | .write _ _ _ => none
  | .read off => some (if off = 0x000 then 0x42353844 else 0)

/-- The reason codes a command can write: the "written by" column of R291, without 0x30 for SEGWIT and VALIDATE. -/
def reasonsOf : Instr → List Reason
  | .clr => [.ok]
  | .b58dec => [.ok, .inTooLong, .b58Char]
  | .b58chk _ => [.ok, .b58Len, .b58Char, .b58Magic, .b58Checksum, .b58NonCanon]
  | .poly => [.ok, .polyNotOne]
  | .hrpx => [.ok, .inTooLong]
  | .b32dec => [.ok, .b32Len, .b32CharRange, .b32MixedCase, .b32NoSep, .b32EmptyHrp, .b32ShortData, .b32Charset, .b32Checksum]
  | .regrp _ _ _ _ => [.ok, .regRange, .regLeftover, .regPadBits, .regCapacity]
  | .segwit _ =>
    [.ok, .b32Len, .b32CharRange, .b32MixedCase, .b32NoSep, .b32EmptyHrp, .b32ShortData, .b32Charset, .b32Checksum] ++
    [.regLeftover, .regPadBits, .segHrp, .segProgLen, .segVersion, .segV0Len]
  | .validate _ =>
    [.ok, .b58Len, .b58Char, .b58Magic, .b58Checksum, .b58NonCanon] ++
    [.b32Len, .b32CharRange, .b32MixedCase, .b32NoSep, .b32EmptyHrp, .b32ShortData, .b32Charset, .b32Checksum] ++
    [.regLeftover, .regPadBits, .segHrp, .segProgLen, .segVersion, .segV0Len]

/-- The number whose base-`2^b` digits are `vs`, most significant first: the concatenation of `b`-bit values. -/
def bitsNumber (b : Nat) (vs : List Nat) : Nat := vs.foldl (fun n v => n * 2 ^ b + v) 0

/-- The source's 25-byte payload of a string: its value in 25 bytes, big-endian, the high-order bytes dropped (R141, R145). -/
def refPayload (text : List Byte) : Vector Byte 25 :=
  Vector.ofFn fun j => BitVec.ofNat 8 (value58 text / 256 ^ (24 - j.val))

/-- B58_INFO of a valid string in the source's terms: OVF from the unbounded value (R144), CANON from re-encoding (R150). -/
def refInfo (zd : ZeroDigit) (text : List Byte) : B58Info where
  invChar := false
  ovf := decide (2 ^ 200 ≤ value58 text)
  canon := decide (base58Encode zd (refPayload text).toList = text)
  dec := true
  zb := BitVec.ofNat 5 (zeroBytes (refPayload text))
  lead1 := BitVec.ofNat 7 (leadOnes text)
  invPos := 0

/-- The source's `validate_base58(address, MAGIC(N))`, steps 1 to 5 with the re-encoding (R244, R246). -/
def sourceBase58 (p : Params) (n : Network) (L : Nat) (text : List Byte) : Prop :=
  27 ≤ L ∧ L ≤ 35 ∧ valid58 text = true ∧ (refPayload text)[0] ∈ magicBytes n ∧
  ((p.sha256 (p.sha256 ((refPayload text).toList.take 21)).toList).toList.take 4 = (refPayload text).toList.drop 21) ∧
  base58Encode p.zeroDigit (refPayload text).toList = text

/-- The source's `decode_string` returns the HRP `hrp` and the symbols `data` without the checksum, for a string with a nonempty HRP: the
length, the range, the case, the last separator, the charset, and the checksum (R190 to R197, R175). -/
def sourceDecodes (L : Nat) (text hrp data : List Byte) : Prop :=
  L ≤ 90 ∧ (∀ c ∈ text, 0x21 ≤ c.toNat ∧ c.toNat ≤ 0x7E) ∧
  ¬ ((∃ c ∈ text, isUpper c = true) ∧ (∃ c ∈ text, isLower c = true)) ∧
  ∃ before after checksum : List Byte,
    text = before ++ 0x31 :: after ∧ 0x31 ∉ after ∧ before ≠ [] ∧ hrp = before.map fold ∧ checksum.length = 6 ∧
    (after.map fun c => charset5 (fold c)) = ((data ++ checksum).map fun v => some v.toNat) ∧
    polymod (naturals (hrpExpand hrp ++ (data ++ checksum))) = 1

/-- The source's `decode_segwit(HRP(N), address)` returns a version and a program: a version symbol of at most 16, a program of 2 to 40 bytes
regrouped from the rest without padding, of 20 or 32 bytes for version 0 (R222, R223). -/
def sourceSegwit (n : Network) (L : Nat) (text : List Byte) : Prop :=
  ∃ (version : Byte) (rest : List Byte) (program : List Nat),
    sourceDecodes L text (hrpBytes n) (version :: rest) ∧
    convertBits (naturals rest) 5 8 false = .values program ∧
    2 ≤ program.length ∧ program.length ≤ 40 ∧ version.toNat ≤ 16 ∧
    (version.toNat = 0 → program.length = 20 ∨ program.length = 32)

/-- The dispatch condition of VALIDATE on the string's length and its first two characters (R250). -/
abbrev startsWithHrp (n : Network) (s : State) : Prop :=
  2 ≤ s.inLen.toNat ∧ fold s.inBuf[0] = (hrpBytes n).getD 0 0 ∧ fold s.inBuf[1] = (hrpBytes n).getD 1 0

/-- The completion of a failing B32DEC: its outputs with SYM and SYM_LEN cleared (R197). -/
def failed32 (s : State) (info : B32Info) (residue : BitVec 30) (code : Reason) : State :=
  { s with
    symLen := 0, sym := Vector.replicate 192 0, polyRes := residue, b32Info := info
    result := false, path := false, reason := code, busy := false, done := true }

/-- The completion of a failing base58 command with the given base58 outputs (R148, R244). -/
def failed58 (s : State) (info : B58Info) (code : Reason) : State :=
  { s with
    payload := Vector.replicate 25 0, b58Info := info
    result := false, path := false, reason := code, busy := false, done := true }

end Sys2Proof.Machine
end

