-- ==== Sys2Proof/Certificates/Slice0/Obligations.lean ====
section
/-! DEFINITION. The statements about the block, from the numbered rules of spec/. Each docstring names the rules it formalises. A next
state of a command is that of its completion, the engine step of R272. -/

open Sys2Proof Sys2Proof.Machine

/-! ### The command word -/

/-- Decode and encode agree: a word decodes to a command exactly when it is the encoding of that well-formed command, every field at every
value (R111, R116, R117, R121). -/
def Obligations.DecodeAndEncodeAgree : Prop :=
  ∀ (w : Word) (i : Instr), decode w = .ok i ↔ WellFormed i ∧ encode i = w

/-- A word encodes a command exactly when it matches that command's row of the table, with REGRP's width condition and the operands of its
fields; it is legal exactly when some row matches, and no two rows match the same word (R117). -/
def Obligations.LegalWordsMatchExactlyOneRow : Prop :=
  (∀ o : Opcode, (matchWord o, maskWord o) =
    match o with
    | .clr => (0x00000001, 0xFFFFFFFF)
    | .b58dec => (0x00000010, 0xFFFFFFFF)
    | .b58chk => (0x00000011, 0xFFFFFEFF)
    | .poly => (0x00000020, 0xFFFFFFFF)
    | .hrpx => (0x00000021, 0xFFFFFFFF)
    | .b32dec => (0x00000022, 0xFFFFFFFF)
    | .regrp => (0x00000023, 0xFFC00FFF)
    | .segwit => (0x00000024, 0xFFFFFEFF)
    | .validate => (0x00000030, 0xFFFFFEFF)) ∧
  ∀ w : Word,
    (decode w = .ok .clr ↔ w = 0x00000001) ∧ (decode w = .ok .b58dec ↔ w = 0x00000010) ∧ (decode w = .ok .poly ↔ w = 0x00000020) ∧
    (decode w = .ok .hrpx ↔ w = 0x00000021) ∧ (decode w = .ok .b32dec ↔ w = 0x00000022) ∧
    (∀ n : Network,
      (decode w = .ok (.b58chk n) ↔ w &&& 0xFFFFFEFF = 0x00000011 ∧ n = if w.getLsbD 8 then .testnet else .mainnet) ∧
      (decode w = .ok (.segwit n) ↔ w &&& 0xFFFFFEFF = 0x00000024 ∧ n = if w.getLsbD 8 then .testnet else .mainnet) ∧
      (decode w = .ok (.validate n) ↔ w &&& 0xFFFFFEFF = 0x00000030 ∧ n = if w.getLsbD 8 then .testnet else .mainnet)) ∧
    (∀ (f t : BitVec 4) (pad skip : Bool), decode w = .ok (.regrp f t pad skip) ↔
      w &&& 0xFFC00FFF = 0x00000023 ∧ f = w.extractLsb' 12 4 ∧ t = w.extractLsb' 16 4 ∧ pad = w.getLsbD 20 ∧ skip = w.getLsbD 21 ∧
        1 ≤ f.toNat ∧ f.toNat ≤ 8 ∧ 1 ≤ t.toNat ∧ t.toNat ≤ 8) ∧
    (legal w = true ↔ ∃ o : Opcode, w &&& maskWord o = matchWord o ∧
      (o = .regrp → 1 ≤ (fieldsOf w).f.toNat ∧ (fieldsOf w).f.toNat ≤ 8 ∧ 1 ≤ (fieldsOf w).t.toNat ∧ (fieldsOf w).t.toNat ≤ 8)) ∧
    ∀ o o' : Opcode, w &&& maskWord o = matchWord o → w &&& maskWord o' = matchWord o' → o = o'

/-- The illegal words are those of the reserved space: a reserved opcode, a nonzero Z1 or Z2, a nonzero field the opcode does not use, or a
REGRP width outside 1..8 (R120), with the fields where R111 puts them and the opcodes of R116. -/
def Obligations.ReservedSpaceIsIllegal : Prop :=
  opcodes.map opByte = [0x01, 0x10, 0x11, 0x20, 0x21, 0x22, 0x23, 0x24, 0x30] ∧
  ∀ w : Word,
    (fieldsOf w = { op := w.extractLsb' 0 8, n := w.getLsbD 8, z1 := w.extractLsb' 9 3, f := w.extractLsb' 12 4, t := w.extractLsb' 16 4,
                    p := w.getLsbD 20, s := w.getLsbD 21, z2 := w.extractLsb' 22 10 }) ∧
    (legal w = false ↔
      (∀ o : Opcode, opByte o ≠ (fieldsOf w).op) ∨ (fieldsOf w).z1 ≠ 0 ∨ (fieldsOf w).z2 ≠ 0 ∨
      ((fieldsOf w).n = true ∧ (fieldsOf w).op ≠ 0x11 ∧ (fieldsOf w).op ≠ 0x24 ∧ (fieldsOf w).op ≠ 0x30) ∨
      (((fieldsOf w).f ≠ 0 ∨ (fieldsOf w).t ≠ 0 ∨ (fieldsOf w).p = true ∨ (fieldsOf w).s = true) ∧ (fieldsOf w).op ≠ 0x23) ∨
      ((fieldsOf w).op = 0x23 ∧ ¬ (1 ≤ (fieldsOf w).f.toNat ∧ (fieldsOf w).f.toNat ≤ 8 ∧
        1 ≤ (fieldsOf w).t.toNat ∧ (fieldsOf w).t.toNat ≤ 8)))

/-- The words in common use decode to the commands the spec lists for them (R119). -/
def Obligations.CommonWordsDecode : Prop :=
  decode 0x00000030 = .ok (.validate .mainnet) ∧ decode 0x00000130 = .ok (.validate .testnet) ∧
  decode 0x00000011 = .ok (.b58chk .mainnet) ∧ decode 0x00000111 = .ok (.b58chk .testnet) ∧
  decode 0x00000024 = .ok (.segwit .mainnet) ∧ decode 0x00000124 = .ok (.segwit .testnet) ∧
  decode 0x00285023 = .ok (.regrp 5 8 false true) ∧ decode 0x00158023 = .ok (.regrp 8 5 true false)

/-! ### The window -/

/-- The offset map: an offset reaches a register exactly when it is that register's offset; every other offset is unmapped or misaligned
(R30, R56, R82). -/
def Obligations.OffsetMapIsComplete : Prop :=
  ∀ off : Offset,
    (∀ r : Reg, regAt off = some r ↔ off.toNat = regOffset r) ∧
    [.id, .ctrl, .cmd, .status, .reason, .inLen, .symLen, .outLen, .polyRes, .b58Info, .b32Info, .wver, .chkCalc, .chkPay].map regOffset =
      [0x000, 0x004, 0x008, 0x00C, 0x010, 0x014, 0x018, 0x01C, 0x020, 0x024, 0x028, 0x02C, 0x030, 0x034] ∧
    (∀ i : Fin 90, regAt off = some (.inBuf i) ↔ off.toNat = 0x400 + 4 * i.val) ∧
    (∀ i : Fin 192, regAt off = some (.sym i) ↔ off.toNat = 0x800 + 4 * i.val) ∧
    (∀ i : Fin 25, regAt off = some (.payload i) ↔ off.toNat = 0xC00 + 4 * i.val) ∧
    (∀ i : Fin 256, regAt off = some (.out i) ↔ off.toNat = 0x1000 + 4 * i.val)

/-- A host read: the register's value and no change of state, except that an unmapped or misaligned offset returns 0 and sets ACCERR, and
that a register of R92 read while BUSY is 1 returns a free word, about which nothing is known, and changes no register (R85, R88, R90, R92). That
the free word is Config.busyRead of the counter draws, which the read advances, and has 32 bits, is the model's own form (log entry 4). -/
def Obligations.ReadReturnsTheRegister : Prop :=
  ∀ (off : Offset) (s : State),
    (regAt off = none → hostRead off s = (0, { s with accErr := true })) ∧
    ∀ r : Reg, regAt off = some r →
      ((s.busy = false ∨ r = .id ∨ r = .ctrl ∨ r = .cmd ∨ r = .status) → hostRead off s = (regValue s r, s)) ∧
      ((s.busy = true ∧ r ≠ .id ∧ r ≠ .ctrl ∧ r ≠ .cmd ∧ r ≠ .status) →
        hostRead off s = (Config.busyRead s.draws, { s with draws := s.draws + 1 }))

/-- What every register reads as, in every state, and where each field of STATUS, B58_INFO, B32_INFO and WVER stands (R31 to R55). -/
def Obligations.RegisterWordsHoldTheirFields : Prop :=
  (∀ s : State,
    regValue s .id = 0x42353844 ∧ regValue s .ctrl = (if s.irqEn then 1 else 0) ∧ regValue s .cmd = s.cmd ∧
    regValue s .status = s.statusWord ∧ regValue s .reason = (reasonCode s.reason).zeroExtend 32 ∧ regValue s .inLen = s.inLen ∧
    regValue s .symLen = s.symLen.zeroExtend 32 ∧ regValue s .outLen = s.outLen.zeroExtend 32 ∧
    regValue s .polyRes = s.polyRes.zeroExtend 32 ∧ regValue s .b58Info = b58InfoWord s.b58Info ∧
    regValue s .b32Info = b32InfoWord s.b32Info ∧ regValue s .wver = wverWord s.wver ∧
    regValue s .chkCalc = s.chkCalc ∧ regValue s .chkPay = s.chkPay ∧
    (∀ i, regValue s (.inBuf i) = s.inBuf[i].zeroExtend 32) ∧ (∀ i, regValue s (.sym i) = s.sym[i].zeroExtend 32) ∧
    (∀ i, regValue s (.payload i) = s.payload[i].zeroExtend 32) ∧ (∀ i, regValue s (.out i) = s.out[i].zeroExtend 32)) ∧
  (∀ (s : State) (k : Nat), s.statusWord.getLsbD k =
    (decide (k = 0) && s.busy || decide (k = 1) && s.done || decide (k = 2) && s.result || decide (k = 3) && s.path ||
      decide (k = 8) && s.illegal || decide (k = 9) && s.busyErr || decide (k = 10) && s.accErr)) ∧
  (∀ x : B58Info, (b58InfoWord x).getLsbD 0 = x.invChar ∧ (b58InfoWord x).getLsbD 1 = x.ovf ∧ (b58InfoWord x).getLsbD 2 = x.canon ∧
    (b58InfoWord x).getLsbD 3 = x.dec ∧ (b58InfoWord x).extractLsb' 8 5 = x.zb ∧ (b58InfoWord x).extractLsb' 16 7 = x.lead1 ∧
    (b58InfoWord x).extractLsb' 24 7 = x.invPos) ∧
  (∀ x : B32Info, (b32InfoWord x).extractLsb' 0 7 = x.sepPos ∧ (b32InfoWord x).extractLsb' 8 7 = x.dataLen ∧
    (b32InfoWord x).getLsbD 15 = x.sepV) ∧
  (∀ x : WVer, (wverWord x).extractLsb' 0 5 = x.ver ∧ (wverWord x).getLsbD 8 = x.wv)

/-- The reserved bits of every register read 0 (R32, R41, R42, R44 to R49, R83). -/
def Obligations.ReservedBitsReadZero : Prop :=
  ∀ s : State,
    regValue s .ctrl &&& 0xFFFFFFFE = 0 ∧ regValue s .status &&& 0xFFFFF8F0 = 0 ∧ regValue s .reason &&& 0xFFFFFF00 = 0 ∧
    regValue s .symLen &&& 0xFFFFFF00 = 0 ∧ regValue s .outLen &&& 0xFFFFFE00 = 0 ∧ regValue s .polyRes &&& 0xC0000000 = 0 ∧
    regValue s .b58Info &&& 0x8080E0F0 = 0 ∧ regValue s .b32Info &&& 0xFFFF0080 = 0 ∧ regValue s .wver &&& 0xFFFFFEE0 = 0 ∧
    (∀ i, regValue s (.inBuf i) &&& 0xFFFFFF00 = 0) ∧ (∀ i, regValue s (.sym i) &&& 0xFFFFFF00 = 0) ∧
    (∀ i, regValue s (.payload i) &&& 0xFFFFFF00 = 0) ∧ (∀ i, regValue s (.out i) &&& 0xFFFFFF00 = 0)

/-- The order of the checks of a host write, with the access errors of R88 and the refusals of R91; a read sets ACCERR only for an offset that
is unmapped or misaligned (R89). The read-only registers are those of R87, the locking ones those of R91. -/
def Obligations.HostWriteChecksInOrder : Prop :=
  (∀ r : Reg, readOnly r = true ↔
    r = .id ∨ r = .reason ∨ r = .outLen ∨ r = .polyRes ∨ r = .b58Info ∨ r = .b32Info ∨ r = .wver ∨ r = .chkCalc ∨ r = .chkPay ∨
    (∃ i, r = .payload i) ∨ ∃ i, r = .out i) ∧
  (∀ r : Reg, locks r = true ↔ r = .cmd ∨ r = .inLen ∨ r = .symLen ∨ (∃ i, r = .inBuf i) ∨ ∃ i, r = .sym i) ∧
  ∀ (off : Offset) (strb : Strobe) (v : Word) (s : State),
    ((regAt off = none ∨ strb ≠ 0xF) → hostWrite off strb v s = { s with accErr := true }) ∧
    ∀ r : Reg, regAt off = some r → strb = 0xF →
      (readOnly r = true → hostWrite off strb v s = { s with accErr := true }) ∧
      (readOnly r = false → s.busy = true → locks r = true → hostWrite off strb v s = { s with busyErr := true }) ∧
      (r = .symLen → s.busy = false → 192 < v.toNat → hostWrite off strb v s = { s with accErr := true }) ∧
      (readOnly r = false → (s.busy = false ∨ locks r = false) → (r ≠ .symLen ∨ v.toNat ≤ 192) →
        hostWrite off strb v s = storeReg v s r) ∧
      (hostRead off s).2.accErr = s.accErr

/-- The effect of a write to each writable register (R86), given by the register's offset: CTRL and STATUS busy or not, the others of a block
that is not busy. -/
def Obligations.WriteStoresItsRegister : Prop :=
  ∀ (s : State) (v : Word),
    hostWrite 0x004 0xF v s = { s with irqEn := v.getLsbD 0 } ∧
    hostWrite 0x00C 0xF v s = s.acknowledge v ∧
    (s.busy = false →
      hostWrite 0x008 0xF v s = s.writeCmd v ∧
      hostWrite 0x014 0xF v s = { s with inLen := v } ∧
      (v.toNat ≤ 192 → hostWrite 0x018 0xF v s = { s with symLen := v.extractLsb' 0 8 }) ∧
      (∀ (off : Offset) (i : Fin 90), regAt off = some (.inBuf i) →
        hostWrite off 0xF v s = { s with inBuf := s.inBuf.set i (v.extractLsb' 0 8) }) ∧
      (∀ (off : Offset) (i : Fin 192), regAt off = some (.sym i) →
        hostWrite off 0xF v s = { s with sym := s.sym.set i (v.extractLsb' 0 8) }))

/-- No write changes any register other than the one named, apart from CMD writes and the STATUS word (R86). -/
def Obligations.WritesLeaveOtherRegisters : Prop :=
  ∀ (off : Offset) (strb : Strobe) (v : Word) (s : State) (r : Reg),
    regAt off ≠ some .cmd → r ≠ .status → regAt off ≠ some r → regValue (hostWrite off strb v s) r = regValue s r

/-- A value written to an idle block reads back, cut to the register's field (R32, R43, R44, R52, R53). -/
def Obligations.WrittenValueReadsBack : Prop :=
  ∀ (s : State) (v : Word), s.busy = false →
    (hostRead 0x004 (hostWrite 0x004 0xF v s)).1 = v &&& 1 ∧
    (hostRead 0x014 (hostWrite 0x014 0xF v s)).1 = v ∧
    (v.toNat ≤ 192 → (hostRead 0x018 (hostWrite 0x018 0xF v s)).1 = v) ∧
    (192 < v.toNat → (hostRead 0x018 (hostWrite 0x018 0xF v s)).1 = (hostRead 0x018 s).1) ∧
    (∀ (off : Offset) (i : Fin 90), regAt off = some (.inBuf i) → (hostRead off (hostWrite off 0xF v s)).1 = v &&& 0xFF) ∧
    (∀ (off : Offset) (i : Fin 192), regAt off = some (.sym i) → (hostRead off (hostWrite off 0xF v s)).1 = v &&& 0xFF)

/-- A STATUS write does exactly the write-one-to-clear of DONE, ILLEGAL, BUSYERR and ACCERR, busy or not, and the reserved bits of STATUS read
0 (R41). -/
def Obligations.AcknowledgeClearsTheNamedFlags : Prop :=
  ∀ (s : State) (v : Word),
    hostWrite 0x00C 0xF v s =
      { s with
        done := if v.getLsbD 1 then false else s.done
        illegal := if v.getLsbD 8 then false else s.illegal
        busyErr := if v.getLsbD 9 then false else s.busyErr
        accErr := if v.getLsbD 10 then false else s.accErr } ∧
    ∀ k : Nat, ((4 ≤ k ∧ k ≤ 7) ∨ 11 ≤ k) → s.statusWord.getLsbD k = false

/-! ### Issue, illegal words, interrupt, reset -/

/-- A CMD write: the issue of a legal word on an idle block, the illegal-command outcome of any other word, the refusal while BUSY is 1 (R270). -/
def Obligations.CommandIssue : Prop :=
  ∀ (s : State) (w : Word),
    (s.busy = false → legal w = true → hostWrite 0x008 0xF w s = { s with cmd := w, lcmd := w, done := false, busy := true }) ∧
    (s.busy = false → legal w = false → hostWrite 0x008 0xF w s = s.raiseIllegal w) ∧
    (s.busy = true → hostWrite 0x008 0xF w s = { s with busyErr := true })

/-- The illegal-command outcome on an idle block (R274), after which BUSY is still 0. That the engine's turn is then a step that changes nothing is
the model's own choice (log entry 8). -/
def Obligations.IllegalWordOutcome : Prop :=
  ∀ (s : State) (w : Word), s.busy = false → legal w = false →
    hostWrite 0x008 0xF w s =
      { s with cmd := w, illegal := true, result := false, path := false, reason := .illegalCmd, done := true } ∧
    (hostWrite 0x008 0xF w s).busy = false ∧
    engineTurn (hostWrite 0x008 0xF w s) = .next (hostWrite 0x008 0xF w s)

/-- The interrupt line: its definition, its enable, and what clears it (R300). -/
def Obligations.InterruptFollowsDone : Prop :=
  ∀ s : State,
    s.irq = (s.irqEn && s.done) ∧
    (∀ v : Word, (hostWrite 0x004 0xF v s).irq = (v.getLsbD 0 && s.done)) ∧
    (∀ v : Word, v.getLsbD 1 = true → (hostWrite 0x00C 0xF v s).irq = false) ∧
    (∀ w : Word, s.busy = false → legal w = true → (hostWrite 0x008 0xF w s).irq = false) ∧
    (∀ as : List Access, (hostReset as s).irq = false) ∧
    ∀ (i : Instr) (t : State), exec i s = .next t → t.irq = s.irqEn

/-- The reset values: every register reads 0, except ID, and LCMD is 0 (R63). -/
def Obligations.ResetLeavesZeros : Prop :=
  (∀ r : Reg, regValue State.reset r = if r = .id then 0x42353844 else 0) ∧ State.reset.lcmd = 0

/-- A reset takes effect at any point, BUSY or not, and leaves exactly the reset state of the block (R330). That the fields draws, schedule and
reads, which are no state of the block, go on is the model's own choice (log entries 4, 5 and 6). -/
def Obligations.ResetAtAnyPoint : Prop :=
  ∀ (s : State) (es : List Event), s.schedule = .reset [] :: es →
    step s = .next { State.reset with schedule := es, reads := s.reads, draws := s.draws }

/-- Accesses made while reset is asserted write nothing, set no flag, and read reset values (R331). The model's own choices: that a reset carries
such accesses at all, and that an offset that reaches no register reads 0 (log entry 13); that schedule and draws go on, and that the words read
join reads (log entries 4, 5 and 6). -/
def Obligations.AccessesDuringReset : Prop :=
  ∀ (as : List Access) (s : State),
    hostReset as s =
      { State.reset with schedule := s.schedule, reads := s.reads ++ as.filterMap resetWord, draws := s.draws }

/-! ### The steps -/

/-- A step takes the next event of the schedule, which is the model's own (log entry 5): a host write or read (R93, R94), the word read joining
reads (log entry 6), or the engine's turn, which runs the command latched in LCMD when BUSY is 1 (R271, R272). That the engine moves when no event
is left, as fairness asks (R347, R350), and that its turn while BUSY is 0 is a step that changes nothing else, are the model's own choices (log
entry 8). -/
def Obligations.StepRunsTheLatchedCommand : Prop :=
  ∀ (s : State) (es : List Event),
    (∀ a : Access, s.schedule = .access a :: es → step s = .next (hostAccess a { s with schedule := es })) ∧
    (∀ (off : Offset) (strb : Strobe) (v : Word), s.schedule = .access (.write off strb v) :: es →
      step s = .next (hostWrite off strb v { s with schedule := es })) ∧
    (∀ off : Offset, s.schedule = .access (.read off) :: es →
      ∃ (w : Word) (t : State), hostRead off { s with schedule := es } = (w, t) ∧ step s = .next { t with reads := t.reads ++ [w] }) ∧
    (∀ i : Instr, s.busy = true → decode s.lcmd = .ok i →
      (s.schedule = .engine :: es → step s = exec i { s with schedule := es }) ∧ (s.schedule = [] → step s = exec i s)) ∧
    (s.busy = false →
      (s.schedule = .engine :: es → step s = .next { s with schedule := es }) ∧ (s.schedule = [] → step s = .next s))

/-- A command put before the engine is read by the decoder and run by the very next step (R110, R270, R272; log entry 7). -/
def Obligations.FetchedWordRunsNext : Prop :=
  ∀ (s : State) (i : Instr), WellFormed i →
    decodeTableWord 32 (encode i).toNat = some i ∧
    step (s.withFetchWord 32 (encode i).toNat) =
      exec i { s with cmd := encode i, lcmd := encode i, done := false, busy := true }

/-- The invariant holds right after reset (R63). -/
def Obligations.InvariantHoldsAtReset : Prop := State.reset.Inv

/-- Every step keeps the invariant: DONE is 0 while BUSY is 1, LCMD is legal and equals CMD while BUSY is 1, the lengths and fields stay in
their ranges, OUT is 0 past OUT_LEN, RESULT and REASON agree once a command has completed, PATH belongs to VALIDATE (R33, R35, R37, R44 to R49,
R55, R60, R64). -/
def Obligations.InvariantKeptByEveryStep : Prop :=
  ∀ s t : State, s.Inv → step s = .next t → t.Inv

/-- No point makes the block fault, hang or refuse: from every state that meets the invariant, a step answers a next state (R290, R305). -/
def Obligations.NoStepStopsTheBlock : Prop :=
  ∀ s : State, s.Inv → ∃ t, step s = .next t

/-- Every run ends: when the host's events are used up and the engine has had the one step that fairness guarantees, BUSY is 0 (R347, R350). The
schedule and the engine's move at its end are the model's own form (log entries 5 and 8). -/
def Obligations.EveryRunEnds : Prop :=
  ∀ s : State, s.Inv → ∃ t : State, Host.Core.run Sys2Proof.core (s.schedule.length + 1) s = .next t ∧ t.ended = true ∧ t.schedule = [] ∧ t.busy = false

/-- What sets the three misuse flags and what clears them (R38, R39, R40); the schedule that names the events is the model's own (log entry 5). -/
def Obligations.MisuseFlagsChangeOnlyAsStated : Prop :=
  ∀ s t : State, step s = .next t →
    (s.illegal = false → t.illegal = true →
      ∃ w es, s.schedule = .access (.write 0x008 0xF w) :: es ∧ s.busy = false ∧ legal w = false) ∧
    (s.busyErr = false → t.busyErr = true →
      ∃ off v es r, s.schedule = .access (.write off 0xF v) :: es ∧ s.busy = true ∧ regAt off = some r ∧ locks r = true) ∧
    (s.accErr = false → t.accErr = true →
      (∃ off es, s.schedule = .access (.read off) :: es ∧ regAt off = none) ∨
      (∃ off strb v es, s.schedule = .access (.write off strb v) :: es ∧
        (regAt off = none ∨ strb ≠ 0xF ∨ (∃ r, regAt off = some r ∧ readOnly r = true) ∨
          (regAt off = some .symLen ∧ s.busy = false ∧ 192 < v.toNat)))) ∧
    (∀ k : Nat, (k = 8 ∧ s.illegal = true ∧ t.illegal = false) ∨ (k = 9 ∧ s.busyErr = true ∧ t.busyErr = false) ∨
        (k = 10 ∧ s.accErr = true ∧ t.accErr = false) →
      (∃ as es, s.schedule = .reset as :: es) ∨
      (∃ v es, s.schedule = .access (.write 0x00C 0xF v) :: es ∧ v.getLsbD k = true))

/-- BUSY rises only at the issue of a legal word, and falls only at the completion of the latched command or at reset (R34, R271, R273); the
schedule, and the engine's move at its end, are the model's own (log entries 5 and 8). -/
def Obligations.BusyRisesAtIssueAndFallsAtCompletion : Prop :=
  ∀ s t : State, step s = .next t →
    (s.busy = false → t.busy = true → ∃ w es, s.schedule = .access (.write 0x008 0xF w) :: es ∧ legal w = true ∧ t.lcmd = w) ∧
    (s.busy = true → t.busy = false →
      (∃ as es, s.schedule = .reset as :: es) ∨
      ((s.schedule = [] ∨ ∃ es, s.schedule = .engine :: es) ∧
        ∃ i, decode s.lcmd = .ok i ∧ exec i { s with schedule := s.schedule.tail } = .next t))

/-- Whatever accesses the host makes between issue and completion, a command leaves the same data registers and the same outcome as if it had
completed at once: it sees its inputs as they were at issue (R91, R97). -/
def Obligations.CommandSeesItsInputsAtIssue : Prop :=
  ∀ (as : List Access) (s t t' : State) (i : Instr), s.busy = true →
    exec i s = .next t → exec i (accesses as s) = .next t' →
    (∀ r : DataReg, sameReg t' t r) ∧ t'.result = t.result ∧ t'.reason = t.reason ∧ t'.path = t.path ∧ t'.cmd = t.cmd

/-! ### All commands -/

/-- The frame of every command: it writes the outputs of its row of R61 and the outcome registers, and nothing else (R61). The schedule, the
words read and the count of draws, the model's own fields, stay (log entries 4, 5 and 6). -/
def Obligations.CommandsWriteOnlyTheirOutputs : Prop :=
  ∀ (i : Instr) (s t : State), exec i s = .next t →
    (∀ r : DataReg, r ∉ outputs i → sameReg t s r) ∧
    t.irqEn = s.irqEn ∧ t.cmd = s.cmd ∧ t.lcmd = s.lcmd ∧ t.illegal = s.illegal ∧ t.busyErr = s.busyErr ∧ t.accErr = s.accErr ∧
    t.schedule = s.schedule ∧ t.reads = s.reads ∧ t.draws = s.draws ∧
    ((sameReg t s .inLen ↔ t.inLen = s.inLen) ∧ (sameReg t s .inBuf ↔ t.inBuf = s.inBuf) ∧ (sameReg t s .symLen ↔ t.symLen = s.symLen) ∧
      (sameReg t s .sym ↔ t.sym = s.sym) ∧ (sameReg t s .outLen ↔ t.outLen = s.outLen) ∧ (sameReg t s .out ↔ t.out = s.out) ∧
      (sameReg t s .payload ↔ t.payload = s.payload) ∧ (sameReg t s .polyRes ↔ t.polyRes = s.polyRes) ∧
      (sameReg t s .b58Info ↔ t.b58Info = s.b58Info) ∧ (sameReg t s .b32Info ↔ t.b32Info = s.b32Info) ∧
      (sameReg t s .wver ↔ t.wver = s.wver) ∧ (sameReg t s .chkCalc ↔ t.chkCalc = s.chkCalc) ∧
      (sameReg t s .chkPay ↔ t.chkPay = s.chkPay)) ∧
    outputs i =
      match i with
      | .clr =>
        [.inLen, .inBuf, .symLen, .sym, .polyRes, .b32Info, .outLen, .out, .wver, .payload, .b58Info, .chkCalc, .chkPay]
      | .b58dec => [.payload, .b58Info]
      | .b58chk _ => [.payload, .b58Info, .chkCalc, .chkPay]
      | .poly => [.polyRes]
      | .hrpx => [.symLen, .sym]
      | .b32dec => [.symLen, .sym, .polyRes, .b32Info]
      | .regrp _ _ _ _ => [.outLen, .out]
      | .segwit _ => [.symLen, .sym, .polyRes, .b32Info, .outLen, .out, .wver]
      | .validate _ =>
        [.payload, .b58Info, .chkCalc, .chkPay, .symLen, .sym, .polyRes, .b32Info, .outLen, .out, .wver]

/-- Every command ends with BUSY 0 and DONE 1, RESULT 1 exactly when REASON is OK, and PATH 1 exactly when it is a VALIDATE on the bech32 path
(R14, R36, R37, R272). -/
def Obligations.CompletionReportsTheOutcome : Prop :=
  ∀ (i : Instr) (s t : State), exec i s = .next t →
    t.busy = false ∧ t.done = true ∧ (t.result = true ↔ reasonCode t.reason = 0x00) ∧
    (t.path = true ↔ ∃ n, i = .validate n ∧ startsWithHrp n s)

/-- A command's outputs and outcome depend only on its word, its inputs, the parameters and sha256 (R59, R61). So a block that is ready for a
command with the intended inputs (R335) runs it, once its word is written to CMD, as it would run from those inputs, and no misuse flag is up; which commands may have a longer string is
read from R344 (log entry 20). -/
def Obligations.CommandsDependOnlyOnTheirInputs : Prop :=
  (∀ i : Instr, inputs i =
    match i with
    | .clr => []
    | .poly | .regrp _ _ _ _ => [.symLen, .sym]
    | .b58dec | .b58chk _ | .hrpx | .b32dec | .segwit _ | .validate _ => [.inLen, .inBuf]) ∧
  (∀ (i : Instr) (s s' t t' : State), (∀ r ∈ inputs i, sameReg s s' r) →
    exec i s = .next t → exec i s' = .next t' →
    (∀ r ∈ outputs i, sameReg t t' r) ∧ t.result = t'.result ∧ t.reason = t'.reason ∧ t.path = t'.path) ∧
  ∀ (i : Instr) (s want u : State), s.ready i want → exec i want = .next u →
    ∃ t : State, engineTurn (hostWrite 0x008 0xF (encode i) s) = .next t ∧
      (∀ r ∈ outputs i, sameReg t u r) ∧ t.result = u.result ∧ t.reason = u.reason ∧ t.path = u.path ∧
      t.illegal = false ∧ t.busyErr = false ∧ t.accErr = false

/-- A completion that first clears every output of its command to 0, and nothing else, and then runs its rule leaves the same state (R62, R272). -/
def Obligations.ClearingTheOutputsFirst : Prop :=
  ∀ (i : Instr) (s : State), exec i (clearOutputs i s) = exec i s ∧
    (∀ r ∈ outputs i, sameReg (clearOutputs i s) State.reset r) ∧ (∀ r : DataReg, r ∉ outputs i → sameReg (clearOutputs i s) s r)

/-- Every command completes, whatever the state and its operands (R273). -/
def Obligations.EveryCommandCompletes : Prop :=
  ∀ (i : Instr) (s : State), WellFormed i → ∃ t, exec i s = .next t ∧ t.busy = false ∧ t.done = true

/-- A REGRP term with a width outside 1..8 is no command and is refused by name (R114; log entry 9). -/
def Obligations.IllegalWidthIsRefused : Prop :=
  ∀ (f t : BitVec 4) (pad skip : Bool) (s : State), ¬ (1 ≤ f.toNat ∧ f.toNat ≤ 8 ∧ 1 ≤ t.toNat ∧ t.toNat ≤ 8) →
    exec (.regrp f t pad skip) s = .refused .illegalWidth

/-- The reason codes with their values, and the codes each command can write: the "written by" column of R291, never 0x30 from SEGWIT or
VALIDATE, and 0x24 only when B32_EMPTY_HRP_OK is false (R291). -/
def Obligations.ReasonCodesByCommand : Prop :=
  [.ok, .inTooLong, .b58Len, .b58Char, .b58Magic, .b58Checksum, .b58NonCanon, .b32Len, .b32CharRange, .b32MixedCase, .b32NoSep,
    .b32EmptyHrp, .b32ShortData, .b32Charset, .b32Checksum, .regRange, .regLeftover, .regPadBits, .regCapacity, .segHrp, .segProgLen,
    .segVersion, .segV0Len, .polyNotOne, .illegalCmd].map reasonCode =
    [0x00, 0x01, 0x10, 0x11, 0x12, 0x13, 0x14, 0x20, 0x21, 0x22, 0x23, 0x24, 0x25, 0x26, 0x27, 0x30, 0x31, 0x32, 0x33, 0x40, 0x41,
      0x42, 0x43, 0x50, 0xF0] ∧
  ∀ (i : Instr) (s t : State), exec i s = .next t →
    t.reason ∈ reasonsOf i ∧
    (t.reason = .b32EmptyHrp → Config.emptyHrpOk = false) ∧
    (regValue t .reason).toNat ∈
      match i with
      | .clr => [0x00]
      | .b58dec => [0x00, 0x01, 0x11]
      | .b58chk _ => [0x00, 0x10, 0x11, 0x12, 0x13, 0x14]
      | .poly => [0x00, 0x50]
      | .hrpx => [0x00, 0x01]
      | .b32dec => [0x00, 0x20, 0x21, 0x22, 0x23, 0x24, 0x25, 0x26, 0x27]
      | .regrp _ _ _ _ => [0x00, 0x30, 0x31, 0x32, 0x33]
      | .segwit _ => [0x00, 0x20, 0x21, 0x22, 0x23, 0x24, 0x25, 0x26, 0x27, 0x31, 0x32, 0x40, 0x41, 0x42, 0x43]
      | .validate _ =>
        if t.path then [0x00, 0x20, 0x21, 0x22, 0x23, 0x24, 0x25, 0x26, 0x27, 0x31, 0x32, 0x40, 0x41, 0x42, 0x43]
        else [0x00, 0x10, 0x11, 0x12, 0x13, 0x14]

/-- A string of more than 90 characters is rejected by every command that reads it (R149, R344). -/
def Obligations.LongStringsAreRejected : Prop :=
  ∀ s : State, 90 < s.inLen.toNat → ∀ (i : Instr) (t : State), exec i s = .next t →
    (i = .b58dec → t.reason = .inTooLong ∧ t.payload = Vector.replicate 25 0 ∧ t.b58Info = .cleared) ∧
    (i = .hrpx → t.reason = .inTooLong ∧ t.symLen = 0) ∧
    (∀ n, i = .b58chk n → t.reason = .b58Len) ∧
    (i = .b32dec → t.reason = .b32Len) ∧
    (∀ n, i = .segwit n → t.reason = .b32Len) ∧
    (∀ n, i = .validate n → (startsWithHrp n s → t.reason = .b32Len) ∧ (¬ startsWithHrp n s → t.reason = .b58Len))

/-! ### CLR -/

/-- `CLR` (R280). -/
def Obligations.ClrClearsTheDataPath : Prop :=
  ∀ s : State, exec .clr s = .next
    { s with
      inLen := 0, inBuf := Vector.replicate 90 0, symLen := 0, sym := Vector.replicate 192 0, outLen := 0
      out := Vector.replicate 256 0, payload := Vector.replicate 25 0, polyRes := 0, b58Info := .cleared, b32Info := .cleared
      wver := .cleared, chkCalc := 0, chkPay := 0
      path := false, result := true, reason := .ok, busy := false, done := true }

/-- The state after `CLR` is the reset state of the block, except CTRL, the sticky flags, CMD, LCMD, DONE and RESULT (R281). -/
def Obligations.ClrIsASoftReset : Prop :=
  ∀ s t : State, s.busy = true → s.Inv → s.lcmd = 0x00000001 → exec .clr s = .next t →
    t = { State.reset with
      irqEn := s.irqEn, illegal := s.illegal, busyErr := s.busyErr, accErr := s.accErr
      cmd := 0x00000001, lcmd := 0x00000001, done := true, result := true
      schedule := s.schedule, reads := s.reads, draws := s.draws }

/-! ### The base58 decoder and its check -/

/-- The 200-bit accumulator and the sticky overflow flag lose nothing of the unbounded value of R141 (R141, R143, R144). -/
def Obligations.AccumulatorTracksTheValue : Prop :=
  value58 [] = 0 ∧
  (∀ (text : List Byte) (c : Byte) (d : Nat), digit58 c = some d → value58 (text ++ [c]) = value58 text * 58 + d) ∧
  ∀ text : List Byte, valid58 text = true →
    scan58 text 0 0 false = .decoded (BitVec.ofNat 200 (value58 text)) (decide (2 ^ 200 ≤ value58 text))

/-- `B58DEC` of a valid string: the payload is the value in 25 bytes, OVF says whether it needs more, CANON whether the string is the
re-encoding of the payload, ZB and LEAD1 count the leading zero bytes and the leading '1' characters (R145, R146, R148, R150). -/
def Obligations.B58decDecodesValidStrings : Prop :=
  (∀ pay : Vector Byte 25, zeroBytes pay = (pay.toList.takeWhile (· == 0x00)).length) ∧
  (∀ text : List Byte, leadOnes text = (text.takeWhile (· == 0x31)).length) ∧
  ∀ s : State, s.inLen.toNat ≤ 90 → valid58 s.text = true →
    exec .b58dec s = .next
      { s with
        payload := refPayload s.text, b58Info := refInfo Config.zeroDigit s.text
        result := true, path := false, reason := .ok, busy := false, done := true }

/-- `B58DEC` stops at the first character outside the alphabet of R140 and records its index; the string a command reads is the stored part of
`IN[0..IN_LEN)` (R43, R140, R142, R146, R148). -/
def Obligations.B58decStopsAtTheFirstInvalidCharacter : Prop :=
  (∀ (c : Byte) (d : Nat), digit58 c = some d ↔
    ([0x31, 0x32, 0x33, 0x34, 0x35, 0x36, 0x37, 0x38, 0x39, 0x41, 0x42, 0x43, 0x44, 0x45, 0x46, 0x47, 0x48, 0x4A, 0x4B, 0x4C, 0x4D,
      0x4E, 0x50, 0x51, 0x52, 0x53, 0x54, 0x55, 0x56, 0x57, 0x58, 0x59, 0x5A, 0x61, 0x62, 0x63, 0x64, 0x65, 0x66, 0x67, 0x68, 0x69,
      0x6A, 0x6B, 0x6D, 0x6E, 0x6F, 0x70, 0x71, 0x72, 0x73, 0x74, 0x75, 0x76, 0x77, 0x78, 0x79, 0x7A] : List Byte)[d]? = some c) ∧
  (∀ text : List Byte, valid58 text = true ↔ ∀ c ∈ text, digit58 c ≠ none) ∧
  (∀ s : State, s.text.length = min s.inLen.toNat 90 ∧ ∀ i : Fin 90, i.val < s.inLen.toNat → s.text[i.val]? = some s.inBuf[i]) ∧
  ∀ (s : State) (before after : List Byte) (c : Byte), s.inLen.toNat ≤ 90 →
    s.text = before ++ c :: after → valid58 before = true → digit58 c = none →
    exec .b58dec s = .next
      (failed58 s { B58Info.cleared with invChar := true, invPos := BitVec.ofNat 7 before.length } .b58Char)

/-- CANON computed from the magnitude flags is the round-trip test against the reference encoder of R147: one '1' for each leading zero byte,
then the base58 digits of the big-endian value, for a zero value none or one '1' as B58_ZERO_DIGIT says (R147, R150). -/
def Obligations.CanonIsTheRoundTripTest : Prop :=
  (∀ (zd : ZeroDigit) (b : List Byte), ∃ digits : List Byte,
    base58Encode zd b = List.replicate (b.takeWhile (· == 0x00)).length 0x31 ++ digits ∧ valid58 digits = true ∧
    (b.foldl (fun n x => n * 256 + x.toNat) 0 = 0 → digits = if b ≠ [] ∧ zd = .one then [0x31] else []) ∧
    (b.foldl (fun n x => n * 256 + x.toNat) 0 ≠ 0 →
      value58 digits = b.foldl (fun n x => n * 256 + x.toNat) 0 ∧ ∃ c rest, digits = c :: rest ∧ c ≠ 0x31)) ∧
  ∀ (zd : ZeroDigit) (text : List Byte), valid58 text = true →
    (canon zd text.length (BitVec.ofNat 200 (value58 text)) (decide (2 ^ 200 ≤ value58 text))
        (zeroBytes (payloadOf (BitVec.ofNat 200 (value58 text)))) (leadOnes text) = true ↔
      base58Encode zd (payloadOf (BitVec.ofNat 200 (value58 text))).toList = text)

/-- Decoding the base58 encoding of 25 bytes gives them back, canonical and without overflow, under either value of B58_ZERO_DIGIT (R151). -/
def Obligations.DecodingAnEncodingGivesTheBytesBack : Prop :=
  ∀ (p : Params) (b : Vector Byte 25),
    (base58Encode p.zeroDigit b.toList).length ≤ 35 ∧
    ∀ s : State, s.text = base58Encode p.zeroDigit b.toList → s.inLen.toNat = s.text.length →
      exec .b58dec s = .next (b58decDone Config.params s) ∧
      (b58decDone p s).payload = b ∧ (b58decDone p s).b58Info.dec = true ∧ (b58decDone p s).b58Info.ovf = false ∧
      (b58decDone p s).b58Info.canon = true ∧ (b58decDone p s).result = true

/-- The magnitude bounds: a valid string of at most 34 characters never overflows, one of at most 35 stays below 2^206, and the smallest
overflowing value and its predecessor have the strings the spec gives (R152). -/
def Obligations.MagnitudeBounds : Prop :=
  58 ^ 34 < 2 ^ 200 ∧ 2 ^ 200 < 58 ^ 35 ∧
  (∀ text : List Byte, valid58 text = true → text.length ≤ 34 → value58 text < 2 ^ 200) ∧
  (∀ text : List Byte, valid58 text = true → text.length ≤ 35 → value58 text < 2 ^ 206) ∧
  digits58 50 (2 ^ 200) [] =
    [0x32, 0x6E, 0x31, 0x58, 0x52, 0x34, 0x6F, 0x4A, 0x6B, 0x6D, 0x42, 0x64, 0x4A, 0x4D, 0x78, 0x68, 0x42] ++
    [0x47, 0x51, 0x47, 0x62, 0x39, 0x36, 0x67, 0x51, 0x38, 0x38, 0x78, 0x55, 0x7A, 0x78, 0x4C, 0x46, 0x79, 0x48] ∧
  digits58 50 (2 ^ 200 - 1) [] =
    [0x32, 0x6E, 0x31, 0x58, 0x52, 0x34, 0x6F, 0x4A, 0x6B, 0x6D, 0x42, 0x64, 0x4A, 0x4D, 0x78, 0x68, 0x42] ++
    [0x47, 0x51, 0x47, 0x62, 0x39, 0x36, 0x67, 0x51, 0x38, 0x38, 0x78, 0x55, 0x7A, 0x78, 0x4C, 0x46, 0x79, 0x47]

/-- The five steps of `B58CHK` in order, with the registers each one leaves, the magic bytes of R240, and the packing of the two checksums
(R50, R51, R240, R242, R243, R244, R245, R246). -/
def Obligations.B58chkStepsInOrder : Prop :=
  magicBytes .mainnet = [0x00, 0x05] ∧ magicBytes .testnet = [0x6F, 0xC4] ∧
  (∀ (sha : List Byte → Vector Byte 32) (pay : Vector Byte 25),
    checkCarried pay = pay[21] ++ pay[22] ++ pay[23] ++ pay[24] ∧
    checkComputed sha pay =
      (sha (sha (pay.toList.take 21)).toList)[0] ++ (sha (sha (pay.toList.take 21)).toList)[1] ++
      (sha (sha (pay.toList.take 21)).toList)[2] ++ (sha (sha (pay.toList.take 21)).toList)[3]) ∧
  ∀ (n : Network) (s : State),
    ((s.inLen.toNat < 27 ∨ 35 < s.inLen.toNat) →
      exec (.b58chk n) s = .next (failed58 { s with chkCalc := 0, chkPay := 0 } .cleared .b58Len)) ∧
    (27 ≤ s.inLen.toNat → s.inLen.toNat ≤ 35 →
      (∀ (before after : List Byte) (c : Byte), s.text = before ++ c :: after → valid58 before = true → digit58 c = none →
        exec (.b58chk n) s = .next
          (failed58 { s with chkCalc := 0, chkPay := 0 }
            { B58Info.cleared with invChar := true, invPos := BitVec.ofNat 7 before.length } .b58Char)) ∧
      (valid58 s.text = true → (refPayload s.text)[0] ∉ magicBytes n →
        exec (.b58chk n) s = .next
          { s with
            payload := refPayload s.text, b58Info := refInfo Config.zeroDigit s.text, chkCalc := 0, chkPay := 0
            result := false, path := false, reason := .b58Magic, busy := false, done := true }) ∧
      (valid58 s.text = true → (refPayload s.text)[0] ∈ magicBytes n →
        exec (.b58chk n) s = .next
          { s with
            payload := refPayload s.text, b58Info := refInfo Config.zeroDigit s.text
            chkCalc := checkComputed Config.sha256 (refPayload s.text), chkPay := checkCarried (refPayload s.text)
            result := decide (checkComputed Config.sha256 (refPayload s.text) = checkCarried (refPayload s.text) ∧
              (refInfo Config.zeroDigit s.text).canon = true)
            path := false
            reason :=
              if checkComputed Config.sha256 (refPayload s.text) ≠ checkCarried (refPayload s.text) then .b58Checksum
              else if (refInfo Config.zeroDigit s.text).canon = false then .b58NonCanon else .ok
            busy := false, done := true }))

/-- B58_ZERO_DIGIT never changes a `B58CHK` or `VALIDATE` outcome, and B32_EMPTY_HRP_OK never changes a RESULT of `SEGWIT` or `VALIDATE` (R7,
R196, R247). -/
def Obligations.ParametersNeverChangeValidation : Prop :=
  ∀ (p : Params) (zd : ZeroDigit) (ok : Bool) (n : Network) (s : State),
    (b58chkDone { p with zeroDigit := zd } n s).result = (b58chkDone p n s).result ∧
    (b58chkDone { p with zeroDigit := zd } n s).reason = (b58chkDone p n s).reason ∧
    (validateDone { p with zeroDigit := zd } n s).reason = (validateDone p n s).reason ∧
    (segwitDone { p with emptyHrpOk := ok } n s).result = (segwitDone p n s).result ∧
    (validateDone { p with zeroDigit := zd, emptyHrpOk := ok } n s).result = (validateDone p n s).result

/-! ### The bech32 units -/

/-- The polymod state stays below 2^30 (R173). -/
def Obligations.PolymodFitsThirtyBits : Prop :=
  (∀ vs : List Nat, (∀ v ∈ vs, v < 2 ^ 30) → polymod vs < 2 ^ 30) ∧ ∀ l : List Byte, polymod (naturals l) < 2 ^ 30

/-- `POLY`: POLY_RES holds the residue of `SYM[0..SYM_LEN)`, whatever their values, and RESULT says whether it is 1; the residue is that of the steps
of R172 from 1, with the five generators of R171 (R44, R53, R171, R172, R176, R177). -/
def Obligations.PolyGivesTheResidue : Prop :=
  polymod [] = 1 ∧
  (∀ (vs : List Nat) (v : Nat), polymod (vs ++ [v]) =
    (((polymod vs &&& 0x1FFFFFF) <<< 5) ^^^ v) ^^^
    (if (polymod vs >>> 25).testBit 0 then 0x3b6a57b2 else 0) ^^^ (if (polymod vs >>> 25).testBit 1 then 0x26508e6d else 0) ^^^
    (if (polymod vs >>> 25).testBit 2 then 0x1ea119fa else 0) ^^^ (if (polymod vs >>> 25).testBit 3 then 0x3d4233dd else 0) ^^^
    (if (polymod vs >>> 25).testBit 4 then 0x2a1462b3 else 0)) ∧
  (∀ l : List Byte, naturals l = l.map BitVec.toNat) ∧
  (∀ s : State, s.symbols.length = min s.symLen.toNat 192 ∧ ∀ i : Fin 192, i.val < s.symLen.toNat → s.symbols[i.val]? = some s.sym[i]) ∧
  ∀ s : State, ∃ r : BitVec 30, r.toNat = polymod (naturals s.symbols) ∧
    exec .poly s = .next
      { s with
        polyRes := r, result := decide (r = 1), path := false, reason := if r = 1 then .ok else .polyNotOne
        busy := false, done := true }

/-- `HRPX` writes the expansion of the raw bytes into SYM, 0 after it (R174, R180). -/
def Obligations.HrpxExpandsTheString : Prop :=
  ∀ s : State, ∃ (sy : Vector Byte 192) (len : BitVec 8),
    exec .hrpx s = .next
      { s with
        symLen := len, sym := sy, result := decide (s.inLen.toNat ≤ 90), path := false
        reason := if s.inLen.toNat ≤ 90 then .ok else .inTooLong, busy := false, done := true } ∧
    (90 < s.inLen.toNat → len = 0 ∧ sy = Vector.replicate 192 0) ∧
    (s.inLen.toNat ≤ 90 → len.toNat = 2 * s.inLen.toNat + 1 ∧
      (∀ i : Fin 90, i.val < s.inLen.toNat →
        sy.toList.getD i.val 0 = s.inBuf[i] >>> (5 : Nat) ∧ sy.toList.getD (s.inLen.toNat + 1 + i.val) 0 = s.inBuf[i] &&& 31) ∧
      sy.toList.getD s.inLen.toNat 0 = 0 ∧
      ∀ j : Fin 192, 2 * s.inLen.toNat < j.val → sy[j] = 0)

/-- `B32DEC` accepts a string that passes every check, and leaves its symbols without the checksum; folding is that of R15, the charset that of
R170, the checksum that of R174 and R175 (R15, R170, R174, R175, R192, R197, R198). -/
def Obligations.B32decAccepts : Prop :=
  (∀ c : Byte, (isUpper c = true ↔ 0x41 ≤ c.toNat ∧ c.toNat ≤ 0x5A) ∧ (isLower c = true ↔ 0x61 ≤ c.toNat ∧ c.toNat ≤ 0x7A) ∧
    (fold c).toNat = if 0x41 ≤ c.toNat ∧ c.toNat ≤ 0x5A then c.toNat + 0x20 else c.toNat) ∧
  (∀ (c : Byte) (d : Nat), charset5 c = some d ↔
    ([0x71, 0x70, 0x7A, 0x72, 0x79, 0x39, 0x78, 0x38, 0x67, 0x66, 0x32, 0x74, 0x76, 0x64, 0x77, 0x30, 0x73, 0x33, 0x6A, 0x6E, 0x35,
      0x34, 0x6B, 0x68, 0x63, 0x65, 0x36, 0x6D, 0x75, 0x61, 0x37, 0x6C] : List Byte)[d]? = some c) ∧
  (∀ h data : List Byte, verifyChecksum h data = true ↔
    polymod ((h.map fun c => c.toNat / 32) ++ [0] ++ (h.map fun c => c.toNat % 32) ++ data.map BitVec.toNat) = 1) ∧
  (∀ (l : List Byte) (i : Fin 192), (fill 192 l)[i] = l.getD i.val 0) ∧
  ∀ (s : State) (hrp dat syms : List Byte), s.inLen.toNat ≤ 90 →
    s.text = hrp ++ 0x31 :: dat → 0x31 ∉ dat →
    (∀ c ∈ s.text, 0x21 ≤ c.toNat ∧ c.toNat ≤ 0x7E) →
    ¬ ((∃ c ∈ s.text, isUpper c = true) ∧ (∃ c ∈ s.text, isLower c = true)) →
    (hrp ≠ [] ∨ Config.emptyHrpOk = true) → 6 ≤ dat.length →
    (dat.map fun c => charset5 (fold c)) = (syms.map fun v => some v.toNat) →
    verifyChecksum (hrp.map fold) syms = true →
    exec .b32dec s = .next
      { s with
        symLen := BitVec.ofNat 8 (dat.length - 6), sym := fill 192 (syms.take (dat.length - 6)), polyRes := 1
        b32Info := { sepPos := BitVec.ofNat 7 hrp.length, dataLen := BitVec.ofNat 7 dat.length, sepV := true }
        result := true, path := false, reason := .ok, busy := false, done := true }

/-- The failing checks of `B32DEC` in their order, with the registers each one leaves, under either value of B32_EMPTY_HRP_OK (R190 to R198,
R295). -/
def Obligations.B32decFailsInOrder : Prop :=
  (∀ pos d : Nat, infoFound pos d = { sepPos := BitVec.ofNat 7 pos, dataLen := BitVec.ofNat 7 d, sepV := true }) ∧
  (∀ h : List Byte, (hrpExpand h).map BitVec.toNat = (h.map fun c => c.toNat / 32) ++ [0] ++ (h.map fun c => c.toNat % 32)) ∧
  B32Info.cleared = { sepPos := 0, dataLen := 0, sepV := false } ∧
  ∀ (p : Params) (s : State),
    exec .b32dec s = .next (b32decDone Config.params s) ∧
    (90 < s.inLen.toNat → b32decDone p s = failed32 s .cleared 0 .b32Len) ∧
    (s.inLen.toNat ≤ 90 →
      ((∃ c ∈ s.text, c.toNat < 0x21 ∨ 0x7E < c.toNat) → b32decDone p s = failed32 s .cleared 0 .b32CharRange) ∧
      ((∀ c ∈ s.text, 0x21 ≤ c.toNat ∧ c.toNat ≤ 0x7E) →
        (((∃ c ∈ s.text, isUpper c = true) ∧ (∃ c ∈ s.text, isLower c = true)) →
          b32decDone p s = failed32 s .cleared 0 .b32MixedCase) ∧
        (¬ ((∃ c ∈ s.text, isUpper c = true) ∧ (∃ c ∈ s.text, isLower c = true)) →
          (0x31 ∉ s.text → b32decDone p s = failed32 s .cleared 0 .b32NoSep) ∧
          ∀ hrp dat : List Byte, s.text = hrp ++ 0x31 :: dat → 0x31 ∉ dat →
            (hrp = [] → p.emptyHrpOk = false →
              b32decDone p s = failed32 s (infoFound hrp.length dat.length) 0 .b32EmptyHrp) ∧
            ((hrp ≠ [] ∨ p.emptyHrpOk = true) →
              (dat.length < 6 → b32decDone p s = failed32 s (infoFound hrp.length dat.length) 0 .b32ShortData) ∧
              (6 ≤ dat.length → (∃ c ∈ dat, charset5 (fold c) = none) →
                b32decDone p s = failed32 s (infoFound hrp.length dat.length) 0 .b32Charset) ∧
              (∀ syms : List Byte, 6 ≤ dat.length → (dat.map fun c => charset5 (fold c)) = (syms.map fun v => some v.toNat) →
                verifyChecksum (hrp.map fold) syms = false →
                b32decDone p s = failed32 s (infoFound hrp.length dat.length)
                  (BitVec.ofNat 30 (polymod (naturals (hrpExpand (hrp.map fold) ++ syms)))) .b32Checksum)))))

/-- Case invariance: a string with no lower-case letter and its folded form decode identically (R199). -/
def Obligations.UpperCaseDecodesAsLowerCase : Prop :=
  ∀ (p : Params) (s s' : State), (∀ c ∈ s.text, isLower c = false) → s'.inLen = s.inLen → s'.text = s.text.map fold →
    exec .b32dec s = .next (b32decDone Config.params s) ∧
    (b32decDone p s').sym = (b32decDone p s).sym ∧ (b32decDone p s').symLen = (b32decDone p s).symLen ∧
    (b32decDone p s').polyRes = (b32decDone p s).polyRes ∧ (b32decDone p s').b32Info = (b32decDone p s).b32Info ∧
    (b32decDone p s').result = (b32decDone p s).result ∧ (b32decDone p s').reason = (b32decDone p s).reason

/-- `REGRP` writes what `convert_bits` gives for its fields, or fails with the code of the first failure; OUT holds the values from element 0 on
and 0 after them (R55, R115, R212, R213). -/
def Obligations.RegrpFollowsConvertBits : Prop :=
  (∀ (n : Nat) (l : List Byte) (i : Fin n), (fill n l)[i] = l.getD i.val 0) ∧
  ∀ (f t : BitVec 4) (pad skip : Bool) (s : State),
    1 ≤ f.toNat → f.toNat ≤ 8 → 1 ≤ t.toNat → t.toNat ≤ 8 →
    exec (.regrp f t pad skip) s = .next
      (match convertBits (naturals (if skip then s.symbols.drop 1 else s.symbols)) f.toNat t.toNat pad with
      | .values vs =>
        { s with
          outLen := if vs.length ≤ 256 then BitVec.ofNat 9 vs.length else 0
          out := if vs.length ≤ 256 then fill 256 (vs.map (BitVec.ofNat 8)) else Vector.replicate 256 0
          result := decide (vs.length ≤ 256), path := false, reason := if vs.length ≤ 256 then .ok else .regCapacity
          busy := false, done := true }
      | .failRange =>
        { s with
          outLen := 0, out := Vector.replicate 256 0, result := false, path := false, reason := .regRange
          busy := false, done := true }
      | .failLeftover =>
        { s with
          outLen := 0, out := Vector.replicate 256 0, result := false, path := false, reason := .regLeftover
          busy := false, done := true }
      | .failPadBits =>
        { s with
          outLen := 0, out := Vector.replicate 256 0, result := false, path := false, reason := .regPadBits
          busy := false, done := true })

/-- Regrouping neither adds, drops nor reorders a bit: read as one number, the output is the input followed by the zero padding bits, or,
without padding, the input without its zero leftover bits (R210, R211 (b)). -/
def Obligations.RegroupingPreservesTheBits : Prop :=
  ∀ (f t : Nat) (data vs : List Nat), 1 ≤ f → f ≤ 8 → 1 ≤ t → t ≤ 8 →
    (convertBits data f t true = .values vs → bitsNumber t vs = bitsNumber f data * 2 ^ (t * vs.length - f * data.length)) ∧
    (convertBits data f t false = .values vs → bitsNumber t vs * 2 ^ (f * data.length - t * vs.length) = bitsNumber f data)

/-- The regrouper facts (R211 (a), (c), (d), (e)), with the width of the outputs (R212) and, for every pair of widths, exactly when a regrouping
without padding fails and when it succeeds (R210). -/
def Obligations.RegrouperFacts : Prop :=
  ∀ (f t : Nat) (data : List Nat), 1 ≤ f → f ≤ 8 → 1 ≤ t → t ≤ 8 → (∀ v ∈ data, v < 2 ^ f) →
    (∃ vs acc, regroupLoop f t data 0 0 = some (vs, acc, (f * data.length) % t)) ∧
    (∃ vs, convertBits data f t true = .values vs ∧ vs.length = (f * data.length + t - 1) / t ∧ ∀ v ∈ vs, v < 2 ^ t) ∧
    (∀ vs, convertBits data f t false = .values vs → vs.length = f * data.length / t ∧ ∀ v ∈ vs, v < 2 ^ t) ∧
    (convertBits data f t false = .failLeftover ↔ f ≤ (f * data.length) % t) ∧
    (convertBits data f t false = .failPadBits ↔
      (f * data.length) % t < f ∧ bitsNumber f data % 2 ^ ((f * data.length) % t) ≠ 0) ∧
    ((∃ vs, convertBits data f t false = .values vs) ↔
      (f * data.length) % t < f ∧ bitsNumber f data % 2 ^ ((f * data.length) % t) = 0) ∧
    (f = 5 → t = 8 →
      (convertBits data f t false = .failLeftover ↔ data.length % 8 = 1 ∨ data.length % 8 = 3 ∨ data.length % 8 = 6) ∧
      (convertBits data f t false = .failPadBits ↔
        ¬ (data.length % 8 = 1 ∨ data.length % 8 = 3 ∨ data.length % 8 = 6) ∧
          bitsNumber 5 data % 2 ^ (5 * data.length % 8) ≠ 0)) ∧
    (f = t → ∀ pad, convertBits data f t pad = .values data)

/-- A value that does not fit fails the regrouping, wherever it stands and whatever else would fail (R210, R212). -/
def Obligations.RangeFailureWins : Prop :=
  ∀ (f t : Nat) (data : List Nat) (pad : Bool), 1 ≤ f → 1 ≤ t →
    (convertBits data f t pad = .failRange ↔ ∃ v ∈ data, 2 ^ f ≤ v)

/-- `SEGWIT` is `B32DEC` followed by the HRP comparison, the regrouping, WVER, and the checks of the program's length, the version and the
version-0 length, in this order (R220, R221, R222). -/
def Obligations.SegwitExtendsB32dec : Prop :=
  hrpBytes .mainnet = [0x62, 0x63] ∧ hrpBytes .testnet = [0x74, 0x62] ∧
  ∀ (n : Network) (s u : State), exec .b32dec s = .next u →
    (u.result = false →
      exec (.segwit n) s = .next { u with outLen := 0, out := Vector.replicate 256 0, wver := { ver := 0, wv := false } }) ∧
    (u.result = true → (s.text.take u.b32Info.sepPos.toNat).map fold ≠ hrpBytes n →
      exec (.segwit n) s = .next
        { u with
          outLen := 0, out := Vector.replicate 256 0, wver := { ver := 0, wv := false }, result := false, reason := .segHrp }) ∧
    (u.result = true → (s.text.take u.b32Info.sepPos.toNat).map fold = hrpBytes n →
      ∀ wver : WVer, wver = (if u.symLen.toNat = 0 then { ver := 0, wv := false } else { ver := u.sym[0].extractLsb' 0 5, wv := true }) →
        (1 ≤ u.symLen.toNat → wver.ver.toNat = u.sym[0].toNat) ∧
        convertBits (naturals (u.symbols.drop 1)) 5 8 false ≠ .failRange ∧
        (convertBits (naturals (u.symbols.drop 1)) 5 8 false = .failLeftover →
          exec (.segwit n) s = .next
            { u with outLen := 0, out := Vector.replicate 256 0, wver := wver, result := false, reason := .regLeftover }) ∧
        (convertBits (naturals (u.symbols.drop 1)) 5 8 false = .failPadBits →
          exec (.segwit n) s = .next
            { u with outLen := 0, out := Vector.replicate 256 0, wver := wver, result := false, reason := .regPadBits }) ∧
        ∀ (vs : List Nat) (t : State), convertBits (naturals (u.symbols.drop 1)) 5 8 false = .values vs →
          t = { u with outLen := BitVec.ofNat 9 vs.length, out := fill 256 (vs.map (BitVec.ofNat 8)), wver := wver } →
          ((vs.length < 2 ∨ 40 < vs.length) → exec (.segwit n) s = .next { t with result := false, reason := .segProgLen }) ∧
          (2 ≤ vs.length → vs.length ≤ 40 → 16 < wver.ver.toNat →
            exec (.segwit n) s = .next { t with result := false, reason := .segVersion }) ∧
          (2 ≤ vs.length → vs.length ≤ 40 → wver.ver.toNat = 0 → vs.length ≠ 20 → vs.length ≠ 32 →
            exec (.segwit n) s = .next { t with result := false, reason := .segV0Len }) ∧
          (2 ≤ vs.length → vs.length ≤ 40 → wver.ver.toNat ≤ 16 → (wver.ver.toNat = 0 → vs.length = 20 ∨ vs.length = 32) →
            exec (.segwit n) s = .next { t with result := true, reason := .ok }))

/-- The shape of every accepted segwit address: HRP of two characters, one symbol count for each program length, at most 74 characters, a
version of at most 16, and version 0 only with 20 or 32 bytes (R222, R224). -/
def Obligations.AcceptedSegwitShape : Prop :=
  ∀ (n : Network) (s t : State), exec (.segwit n) s = .next t → t.result = true →
    2 ≤ t.outLen.toNat ∧ t.outLen.toNat ≤ 40 ∧ t.symLen.toNat = 1 + (8 * t.outLen.toNat + 4) / 5 ∧
    t.wver.wv = true ∧ t.wver.ver.toNat ≤ 16 ∧ (t.wver.ver = 0 → t.outLen.toNat = 20 ∨ t.outLen.toNat = 32) ∧
    t.b32Info.sepPos = 2 ∧ t.b32Info.dataLen.toNat = t.symLen.toNat + 6 ∧ s.inLen.toNat = t.symLen.toNat + 9 ∧
    s.inLen.toNat ≤ 74 ∧ t.polyRes = 1

/-! ### The dispatch -/

/-- `VALIDATE` is `SEGWIT` with PATH 1 when the string starts with the network's HRP, and `B58CHK` with PATH 0 otherwise; the outputs of the path
not taken are cleared (R250, R252, R253). -/
def Obligations.ValidateTakesOnePath : Prop :=
  ∀ (n : Network) (s t : State),
    (startsWithHrp n s → exec (.segwit n) s = .next t →
      exec (.validate n) s = .next
        { t with path := true, payload := Vector.replicate 25 0, b58Info := .cleared, chkCalc := 0, chkPay := 0 }) ∧
    (¬ startsWithHrp n s → exec (.b58chk n) s = .next t →
      exec (.validate n) s = .next
        { t with
          symLen := 0, sym := Vector.replicate 192 0, polyRes := 0, b32Info := .cleared, outLen := 0
          out := Vector.replicate 256 0, wver := .cleared })

/-- RESULT is the source's predicate, for every sha256: `B58CHK` is `validate_base58` with its re-encoding, `SEGWIT` is the success of
`decode_segwit`, and `VALIDATE` is the one or the other, as the first two characters fold to the network's HRP or not (R222, R223, R244, R246,
R252, R254). -/
def Obligations.ValidationMeetsTheSource : Prop :=
  ∀ (n : Network) (s t : State),
    (exec (.b58chk n) s = .next t → (t.result = true ↔ sourceBase58 Config.params n s.inLen.toNat s.text)) ∧
    (exec (.segwit n) s = .next t → (t.result = true ↔ sourceSegwit n s.inLen.toNat s.text)) ∧
    (exec (.validate n) s = .next t →
      (t.result = true ↔
        (startsWithHrp n s ∧ sourceSegwit n s.inLen.toNat s.text) ∨
        (¬ startsWithHrp n s ∧ sourceBase58 Config.params n s.inLen.toNat s.text)))
end

