-- ==== Sys2Proof/Laws/Base58.lean ====
section
/-! SUPPORT. The alphabet is a bijection between its characters and the digits (R140), the recursion of the value (R141), and the ranges of
the magnitude counts (R47). -/

namespace Sys2Proof.Machine

theorem digit58_table : ∀ n : Fin 256,
    (digit58 (BitVec.ofFin n)).all (fun d => decide (d < 58) && alpha58 d == BitVec.ofFin n) = true := by
  decide +kernel

theorem digit58_lt {c : Byte} {d : Nat} (h : digit58 c = some d) : d < 58 := by
  have := digit58_table c.toFin
  simp [h] at this
  exact this.1

theorem alpha58_digit58 {c : Byte} {d : Nat} (h : digit58 c = some d) : alpha58 d = c := by
  have := digit58_table c.toFin
  simp [h] at this
  exact this.2

theorem digit58_alpha58_table : ∀ k : Fin 58, digit58 (alpha58 k) = some k.val := by
  decide +kernel

theorem digit58_alpha58 {k : Nat} (h : k < 58) : digit58 (alpha58 k) = some k := digit58_alpha58_table ⟨k, h⟩

@[simp] theorem value58_nil : value58 [] = 0 := rfl

theorem value58_concat (l : List Byte) (c : Byte) : value58 (l ++ [c]) = value58 l * 58 + (digit58 c).getD 0 := by
  simp [value58]

theorem leadingCount_le (c : Byte) (l : List Byte) : leadingCount c l ≤ l.length :=
  (List.takeWhile_sublist _).length_le

theorem zeroBytes_le (pay : Vector Byte 25) : zeroBytes pay ≤ 25 := by
  simpa [zeroBytes] using leadingCount_le 0x00 pay.toList

theorem leadOnes_le (text : List Byte) : leadOnes text ≤ text.length := leadingCount_le 0x31 text

end Sys2Proof.Machine
end

