-- ==== Sys2Proof/Laws/Bech32.lean ====
section
/-! SUPPORT. The charset's range (R170), folding (R15), the search for the separator (R192), the symbols of a data part (R195), and what the
regrouper's inner loop answers (R210). -/

namespace Sys2Proof.Machine

theorem charset5_table : ∀ n : Fin 256,
    (charset5 (BitVec.ofFin n)).all (fun d => decide (d < 32)) = true := by
  decide +kernel

theorem charset5_lt {c : Byte} {d : Nat} (h : charset5 c = some d) : d < 32 := by
  have := charset5_table c.toFin
  simpa [h] using this

theorem fold_table : ∀ n : Fin 256,
    let c : Byte := BitVec.ofFin n
    fold (fold c) = fold c ∧ isUpper (fold c) = false ∧ (fold c = 0x31 ↔ c = 0x31) ∧ outside32 (fold c) = outside32 c := by
  decide +kernel

theorem fold_fold (c : Byte) : fold (fold c) = fold c := (fold_table c.toFin).1

theorem isUpper_fold (c : Byte) : isUpper (fold c) = false := (fold_table c.toFin).2.1

/-- Folding neither makes nor loses a separator (R192). -/
theorem fold_eq_one (c : Byte) : fold c = 0x31 ↔ c = 0x31 := (fold_table c.toFin).2.2.1

theorem outside32_fold (c : Byte) : outside32 (fold c) = outside32 c := (fold_table c.toFin).2.2.2

theorem lastOne_cons (c : Byte) (cs : List Byte) :
    lastOne (c :: cs) = match lastOne cs with
      | some i => some (i + 1)
      | none => if c = 0x31 then some 0 else none := rfl

/-- The separator is the last '1' (R192). -/
theorem lastOne_split (before after : List Byte) (h : lastOne after = none) :
    lastOne (before ++ 0x31 :: after) = some before.length := by
  induction before with
  | nil => rw [List.nil_append, lastOne_cons, h]; rfl
  | cons c cs ih => rw [List.cons_append, lastOne_cons, ih]; rfl

/-- What the search answers: no '1', or the last '1' with what stands before and after it (R192). -/
theorem lastOne_spec (l : List Byte) :
    (lastOne l = none ∧ 0x31 ∉ l) ∨
    ∃ before after, l = before ++ 0x31 :: after ∧ lastOne l = some before.length ∧ 0x31 ∉ after := by
  induction l with
  | nil => exact .inl ⟨rfl, List.not_mem_nil⟩
  | cons c cs ih =>
    rcases ih with ⟨h, hn⟩ | ⟨before, after, rfl, h, hn⟩
    · by_cases hc : c = 0x31
      · exact .inr ⟨[], cs, by rw [hc]; rfl, by rw [lastOne_cons, h, if_pos hc]; rfl, hn⟩
      · exact .inl ⟨by rw [lastOne_cons, h]; exact if_neg hc, fun hm => (List.mem_cons.1 hm).elim (fun e => hc e.symm) hn⟩
    · exact .inr ⟨c :: before, after, rfl, by rw [lastOne_cons, h]; rfl, hn⟩

theorem lastOne_eq_none {l : List Byte} (h : 0x31 ∉ l) : lastOne l = none := by
  rcases lastOne_spec l with h' | ⟨before, after, rfl, -, -⟩
  · exact h'.1
  · exact absurd (List.mem_append_right _ List.mem_cons_self) h

/-- The symbols of a data part: as many as its characters, each below 32 (R195, R291's note on 0x30). -/
theorem symbolsOf_some {l vs : List Byte} (h : symbolsOf l = some vs) :
    vs.length = l.length ∧ (∀ v ∈ vs, v.toNat < 32) ∧ l.map charset5 = vs.map fun v => some v.toNat := by
  induction l generalizing vs with
  | nil =>
    cases h
    simp
  | cons c cs ih =>
    unfold symbolsOf at h
    cases hc : charset5 c with
    | none => simp [hc] at h
    | some v =>
      cases hs : symbolsOf cs with
      | none => simp [hc, hs] at h
      | some ws =>
        have hv := charset5_lt hc
        have hmod : v % 256 = v := Nat.mod_eq_of_lt (by omega)
        obtain ⟨h1, h2, h3⟩ := ih hs
        simp only [hc, hs, Option.some.injEq] at h
        subst h
        refine ⟨by simp [h1], ?_, by simp [hc, h3, hmod]⟩
        intro x hx
        rcases List.mem_cons.1 hx with rfl | hx
        · simp [hmod, hv]
        · exact h2 x hx

theorem symbolsOf_eq_none {l : List Byte} : symbolsOf l = none ↔ ∃ c ∈ l, charset5 c = none := by
  induction l with
  | nil => simp [symbolsOf]
  | cons c cs ih =>
    unfold symbolsOf
    cases hc : charset5 c with
    | none => simp [hc]
    | some v =>
      cases hs : symbolsOf cs with
      | none => simpa [hc] using ih.1 hs
      | some ws =>
        have : ¬ ∃ c ∈ cs, charset5 c = none := fun hx => by
          rw [ih.2 hx] at hs
          cases hs
        simpa [hc] using this

theorem and_maxv (x t : Nat) : x &&& maxv t = x % 2 ^ t := Nat.and_two_pow_sub_one_eq_mod x t

/-- The inner loop takes `bits / t` values and leaves `bits % t` bits, whatever the fuel past `bits` (R210). -/
theorem drain_spec {t : Nat} (ht : 1 ≤ t) (acc : Nat) (fuel bits : Nat) (h : bits ≤ fuel) :
    (drain t acc fuel bits).1.length = bits / t ∧ (drain t acc fuel bits).2 = bits % t ∧
      ∀ v ∈ (drain t acc fuel bits).1, v < 2 ^ t := by
  induction fuel generalizing bits with
  | zero =>
    obtain rfl : bits = 0 := by omega
    simp [drain]
  | succ k ih =>
    unfold drain
    by_cases hb : t ≤ bits
    · obtain ⟨h1, h2, h3⟩ := ih (bits - t) (by omega)
      simp only [hb, if_true]
      refine ⟨?_, ?_, ?_⟩
      · rw [List.length_cons, h1, Nat.div_eq_sub_div (by omega) hb]
      · rw [h2, ← Nat.mod_eq_sub_mod hb]
      · intro v hv
        rcases List.mem_cons.1 hv with rfl | hv
        · rw [and_maxv]
          exact Nat.mod_lt _ (Nat.two_pow_pos t)
        · exact h3 v hv
    · simp only [hb, if_false]
      exact ⟨by simp [Nat.div_eq_of_lt (by omega : bits < t)], (Nat.mod_eq_of_lt (by omega)).symm, by simp⟩

end Sys2Proof.Machine
end

