-- ==== Sys2Proof/Laws/State.lean ====
section
/-! SUPPORT. What each named operation does to each field of the state: one lemma per field per operation, so that no proof unfolds a
record update. -/

namespace Sys2Proof.Machine

section putPayload

variable (s : State) (pay : Vector Byte 25) (info : B58Info)

@[simp] theorem State.putPayload_irqEn : (s.putPayload pay info).irqEn = s.irqEn := rfl
@[simp] theorem State.putPayload_cmd : (s.putPayload pay info).cmd = s.cmd := rfl
@[simp] theorem State.putPayload_lcmd : (s.putPayload pay info).lcmd = s.lcmd := rfl
@[simp] theorem State.putPayload_busy : (s.putPayload pay info).busy = s.busy := rfl
@[simp] theorem State.putPayload_done : (s.putPayload pay info).done = s.done := rfl
@[simp] theorem State.putPayload_result : (s.putPayload pay info).result = s.result := rfl
@[simp] theorem State.putPayload_path : (s.putPayload pay info).path = s.path := rfl
@[simp] theorem State.putPayload_illegal : (s.putPayload pay info).illegal = s.illegal := rfl
@[simp] theorem State.putPayload_busyErr : (s.putPayload pay info).busyErr = s.busyErr := rfl
@[simp] theorem State.putPayload_accErr : (s.putPayload pay info).accErr = s.accErr := rfl
@[simp] theorem State.putPayload_reason : (s.putPayload pay info).reason = s.reason := rfl
@[simp] theorem State.putPayload_inLen : (s.putPayload pay info).inLen = s.inLen := rfl
@[simp] theorem State.putPayload_symLen : (s.putPayload pay info).symLen = s.symLen := rfl
@[simp] theorem State.putPayload_outLen : (s.putPayload pay info).outLen = s.outLen := rfl
@[simp] theorem State.putPayload_polyRes : (s.putPayload pay info).polyRes = s.polyRes := rfl
@[simp] theorem State.putPayload_b58Info : (s.putPayload pay info).b58Info = info := rfl
@[simp] theorem State.putPayload_b32Info : (s.putPayload pay info).b32Info = s.b32Info := rfl
@[simp] theorem State.putPayload_wver : (s.putPayload pay info).wver = s.wver := rfl
@[simp] theorem State.putPayload_chkCalc : (s.putPayload pay info).chkCalc = s.chkCalc := rfl
@[simp] theorem State.putPayload_chkPay : (s.putPayload pay info).chkPay = s.chkPay := rfl
@[simp] theorem State.putPayload_inBuf : (s.putPayload pay info).inBuf = s.inBuf := rfl
@[simp] theorem State.putPayload_sym : (s.putPayload pay info).sym = s.sym := rfl
@[simp] theorem State.putPayload_payload : (s.putPayload pay info).payload = pay := rfl
@[simp] theorem State.putPayload_out : (s.putPayload pay info).out = s.out := rfl
@[simp] theorem State.putPayload_schedule : (s.putPayload pay info).schedule = s.schedule := rfl
@[simp] theorem State.putPayload_reads : (s.putPayload pay info).reads = s.reads := rfl
@[simp] theorem State.putPayload_draws : (s.putPayload pay info).draws = s.draws := rfl

end putPayload

section putChecksums

variable (s : State) (a b : Word)

@[simp] theorem State.putChecksums_irqEn : (s.putChecksums a b).irqEn = s.irqEn := rfl
@[simp] theorem State.putChecksums_cmd : (s.putChecksums a b).cmd = s.cmd := rfl
@[simp] theorem State.putChecksums_lcmd : (s.putChecksums a b).lcmd = s.lcmd := rfl
@[simp] theorem State.putChecksums_busy : (s.putChecksums a b).busy = s.busy := rfl
@[simp] theorem State.putChecksums_done : (s.putChecksums a b).done = s.done := rfl
@[simp] theorem State.putChecksums_result : (s.putChecksums a b).result = s.result := rfl
@[simp] theorem State.putChecksums_path : (s.putChecksums a b).path = s.path := rfl
@[simp] theorem State.putChecksums_illegal : (s.putChecksums a b).illegal = s.illegal := rfl
@[simp] theorem State.putChecksums_busyErr : (s.putChecksums a b).busyErr = s.busyErr := rfl
@[simp] theorem State.putChecksums_accErr : (s.putChecksums a b).accErr = s.accErr := rfl
@[simp] theorem State.putChecksums_reason : (s.putChecksums a b).reason = s.reason := rfl
@[simp] theorem State.putChecksums_inLen : (s.putChecksums a b).inLen = s.inLen := rfl
@[simp] theorem State.putChecksums_symLen : (s.putChecksums a b).symLen = s.symLen := rfl
@[simp] theorem State.putChecksums_outLen : (s.putChecksums a b).outLen = s.outLen := rfl
@[simp] theorem State.putChecksums_polyRes : (s.putChecksums a b).polyRes = s.polyRes := rfl
@[simp] theorem State.putChecksums_b58Info : (s.putChecksums a b).b58Info = s.b58Info := rfl
@[simp] theorem State.putChecksums_b32Info : (s.putChecksums a b).b32Info = s.b32Info := rfl
@[simp] theorem State.putChecksums_wver : (s.putChecksums a b).wver = s.wver := rfl
@[simp] theorem State.putChecksums_chkCalc : (s.putChecksums a b).chkCalc = a := rfl
@[simp] theorem State.putChecksums_chkPay : (s.putChecksums a b).chkPay = b := rfl
@[simp] theorem State.putChecksums_inBuf : (s.putChecksums a b).inBuf = s.inBuf := rfl
@[simp] theorem State.putChecksums_sym : (s.putChecksums a b).sym = s.sym := rfl
@[simp] theorem State.putChecksums_payload : (s.putChecksums a b).payload = s.payload := rfl
@[simp] theorem State.putChecksums_out : (s.putChecksums a b).out = s.out := rfl
@[simp] theorem State.putChecksums_schedule : (s.putChecksums a b).schedule = s.schedule := rfl
@[simp] theorem State.putChecksums_reads : (s.putChecksums a b).reads = s.reads := rfl
@[simp] theorem State.putChecksums_draws : (s.putChecksums a b).draws = s.draws := rfl

end putChecksums

section putSymbols

variable (s : State) (l : List Byte)

@[simp] theorem State.putSymbols_irqEn : (s.putSymbols l).irqEn = s.irqEn := rfl
@[simp] theorem State.putSymbols_cmd : (s.putSymbols l).cmd = s.cmd := rfl
@[simp] theorem State.putSymbols_lcmd : (s.putSymbols l).lcmd = s.lcmd := rfl
@[simp] theorem State.putSymbols_busy : (s.putSymbols l).busy = s.busy := rfl
@[simp] theorem State.putSymbols_done : (s.putSymbols l).done = s.done := rfl
@[simp] theorem State.putSymbols_result : (s.putSymbols l).result = s.result := rfl
@[simp] theorem State.putSymbols_path : (s.putSymbols l).path = s.path := rfl
@[simp] theorem State.putSymbols_illegal : (s.putSymbols l).illegal = s.illegal := rfl
@[simp] theorem State.putSymbols_busyErr : (s.putSymbols l).busyErr = s.busyErr := rfl
@[simp] theorem State.putSymbols_accErr : (s.putSymbols l).accErr = s.accErr := rfl
@[simp] theorem State.putSymbols_reason : (s.putSymbols l).reason = s.reason := rfl
@[simp] theorem State.putSymbols_inLen : (s.putSymbols l).inLen = s.inLen := rfl
@[simp] theorem State.putSymbols_symLen : (s.putSymbols l).symLen = BitVec.ofNat 8 l.length := rfl
@[simp] theorem State.putSymbols_outLen : (s.putSymbols l).outLen = s.outLen := rfl
@[simp] theorem State.putSymbols_polyRes : (s.putSymbols l).polyRes = s.polyRes := rfl
@[simp] theorem State.putSymbols_b58Info : (s.putSymbols l).b58Info = s.b58Info := rfl
@[simp] theorem State.putSymbols_b32Info : (s.putSymbols l).b32Info = s.b32Info := rfl
@[simp] theorem State.putSymbols_wver : (s.putSymbols l).wver = s.wver := rfl
@[simp] theorem State.putSymbols_chkCalc : (s.putSymbols l).chkCalc = s.chkCalc := rfl
@[simp] theorem State.putSymbols_chkPay : (s.putSymbols l).chkPay = s.chkPay := rfl
@[simp] theorem State.putSymbols_inBuf : (s.putSymbols l).inBuf = s.inBuf := rfl
@[simp] theorem State.putSymbols_sym : (s.putSymbols l).sym = fill 192 l := rfl
@[simp] theorem State.putSymbols_payload : (s.putSymbols l).payload = s.payload := rfl
@[simp] theorem State.putSymbols_out : (s.putSymbols l).out = s.out := rfl
@[simp] theorem State.putSymbols_schedule : (s.putSymbols l).schedule = s.schedule := rfl
@[simp] theorem State.putSymbols_reads : (s.putSymbols l).reads = s.reads := rfl
@[simp] theorem State.putSymbols_draws : (s.putSymbols l).draws = s.draws := rfl

end putSymbols

section putPoly

variable (s : State) (r : BitVec 30)

@[simp] theorem State.putPoly_irqEn : (s.putPoly r).irqEn = s.irqEn := rfl
@[simp] theorem State.putPoly_cmd : (s.putPoly r).cmd = s.cmd := rfl
@[simp] theorem State.putPoly_lcmd : (s.putPoly r).lcmd = s.lcmd := rfl
@[simp] theorem State.putPoly_busy : (s.putPoly r).busy = s.busy := rfl
@[simp] theorem State.putPoly_done : (s.putPoly r).done = s.done := rfl
@[simp] theorem State.putPoly_result : (s.putPoly r).result = s.result := rfl
@[simp] theorem State.putPoly_path : (s.putPoly r).path = s.path := rfl
@[simp] theorem State.putPoly_illegal : (s.putPoly r).illegal = s.illegal := rfl
@[simp] theorem State.putPoly_busyErr : (s.putPoly r).busyErr = s.busyErr := rfl
@[simp] theorem State.putPoly_accErr : (s.putPoly r).accErr = s.accErr := rfl
@[simp] theorem State.putPoly_reason : (s.putPoly r).reason = s.reason := rfl
@[simp] theorem State.putPoly_inLen : (s.putPoly r).inLen = s.inLen := rfl
@[simp] theorem State.putPoly_symLen : (s.putPoly r).symLen = s.symLen := rfl
@[simp] theorem State.putPoly_outLen : (s.putPoly r).outLen = s.outLen := rfl
@[simp] theorem State.putPoly_polyRes : (s.putPoly r).polyRes = r := rfl
@[simp] theorem State.putPoly_b58Info : (s.putPoly r).b58Info = s.b58Info := rfl
@[simp] theorem State.putPoly_b32Info : (s.putPoly r).b32Info = s.b32Info := rfl
@[simp] theorem State.putPoly_wver : (s.putPoly r).wver = s.wver := rfl
@[simp] theorem State.putPoly_chkCalc : (s.putPoly r).chkCalc = s.chkCalc := rfl
@[simp] theorem State.putPoly_chkPay : (s.putPoly r).chkPay = s.chkPay := rfl
@[simp] theorem State.putPoly_inBuf : (s.putPoly r).inBuf = s.inBuf := rfl
@[simp] theorem State.putPoly_sym : (s.putPoly r).sym = s.sym := rfl
@[simp] theorem State.putPoly_payload : (s.putPoly r).payload = s.payload := rfl
@[simp] theorem State.putPoly_out : (s.putPoly r).out = s.out := rfl
@[simp] theorem State.putPoly_schedule : (s.putPoly r).schedule = s.schedule := rfl
@[simp] theorem State.putPoly_reads : (s.putPoly r).reads = s.reads := rfl
@[simp] theorem State.putPoly_draws : (s.putPoly r).draws = s.draws := rfl

end putPoly

section putB32Info

variable (s : State) (x : B32Info)

@[simp] theorem State.putB32Info_irqEn : (s.putB32Info x).irqEn = s.irqEn := rfl
@[simp] theorem State.putB32Info_cmd : (s.putB32Info x).cmd = s.cmd := rfl
@[simp] theorem State.putB32Info_lcmd : (s.putB32Info x).lcmd = s.lcmd := rfl
@[simp] theorem State.putB32Info_busy : (s.putB32Info x).busy = s.busy := rfl
@[simp] theorem State.putB32Info_done : (s.putB32Info x).done = s.done := rfl
@[simp] theorem State.putB32Info_result : (s.putB32Info x).result = s.result := rfl
@[simp] theorem State.putB32Info_path : (s.putB32Info x).path = s.path := rfl
@[simp] theorem State.putB32Info_illegal : (s.putB32Info x).illegal = s.illegal := rfl
@[simp] theorem State.putB32Info_busyErr : (s.putB32Info x).busyErr = s.busyErr := rfl
@[simp] theorem State.putB32Info_accErr : (s.putB32Info x).accErr = s.accErr := rfl
@[simp] theorem State.putB32Info_reason : (s.putB32Info x).reason = s.reason := rfl
@[simp] theorem State.putB32Info_inLen : (s.putB32Info x).inLen = s.inLen := rfl
@[simp] theorem State.putB32Info_symLen : (s.putB32Info x).symLen = s.symLen := rfl
@[simp] theorem State.putB32Info_outLen : (s.putB32Info x).outLen = s.outLen := rfl
@[simp] theorem State.putB32Info_polyRes : (s.putB32Info x).polyRes = s.polyRes := rfl
@[simp] theorem State.putB32Info_b58Info : (s.putB32Info x).b58Info = s.b58Info := rfl
@[simp] theorem State.putB32Info_b32Info : (s.putB32Info x).b32Info = x := rfl
@[simp] theorem State.putB32Info_wver : (s.putB32Info x).wver = s.wver := rfl
@[simp] theorem State.putB32Info_chkCalc : (s.putB32Info x).chkCalc = s.chkCalc := rfl
@[simp] theorem State.putB32Info_chkPay : (s.putB32Info x).chkPay = s.chkPay := rfl
@[simp] theorem State.putB32Info_inBuf : (s.putB32Info x).inBuf = s.inBuf := rfl
@[simp] theorem State.putB32Info_sym : (s.putB32Info x).sym = s.sym := rfl
@[simp] theorem State.putB32Info_payload : (s.putB32Info x).payload = s.payload := rfl
@[simp] theorem State.putB32Info_out : (s.putB32Info x).out = s.out := rfl
@[simp] theorem State.putB32Info_schedule : (s.putB32Info x).schedule = s.schedule := rfl
@[simp] theorem State.putB32Info_reads : (s.putB32Info x).reads = s.reads := rfl
@[simp] theorem State.putB32Info_draws : (s.putB32Info x).draws = s.draws := rfl

end putB32Info

section putOut

variable (s : State) (l : List Byte)

@[simp] theorem State.putOut_irqEn : (s.putOut l).irqEn = s.irqEn := rfl
@[simp] theorem State.putOut_cmd : (s.putOut l).cmd = s.cmd := rfl
@[simp] theorem State.putOut_lcmd : (s.putOut l).lcmd = s.lcmd := rfl
@[simp] theorem State.putOut_busy : (s.putOut l).busy = s.busy := rfl
@[simp] theorem State.putOut_done : (s.putOut l).done = s.done := rfl
@[simp] theorem State.putOut_result : (s.putOut l).result = s.result := rfl
@[simp] theorem State.putOut_path : (s.putOut l).path = s.path := rfl
@[simp] theorem State.putOut_illegal : (s.putOut l).illegal = s.illegal := rfl
@[simp] theorem State.putOut_busyErr : (s.putOut l).busyErr = s.busyErr := rfl
@[simp] theorem State.putOut_accErr : (s.putOut l).accErr = s.accErr := rfl
@[simp] theorem State.putOut_reason : (s.putOut l).reason = s.reason := rfl
@[simp] theorem State.putOut_inLen : (s.putOut l).inLen = s.inLen := rfl
@[simp] theorem State.putOut_symLen : (s.putOut l).symLen = s.symLen := rfl
@[simp] theorem State.putOut_outLen : (s.putOut l).outLen = BitVec.ofNat 9 l.length := rfl
@[simp] theorem State.putOut_polyRes : (s.putOut l).polyRes = s.polyRes := rfl
@[simp] theorem State.putOut_b58Info : (s.putOut l).b58Info = s.b58Info := rfl
@[simp] theorem State.putOut_b32Info : (s.putOut l).b32Info = s.b32Info := rfl
@[simp] theorem State.putOut_wver : (s.putOut l).wver = s.wver := rfl
@[simp] theorem State.putOut_chkCalc : (s.putOut l).chkCalc = s.chkCalc := rfl
@[simp] theorem State.putOut_chkPay : (s.putOut l).chkPay = s.chkPay := rfl
@[simp] theorem State.putOut_inBuf : (s.putOut l).inBuf = s.inBuf := rfl
@[simp] theorem State.putOut_sym : (s.putOut l).sym = s.sym := rfl
@[simp] theorem State.putOut_payload : (s.putOut l).payload = s.payload := rfl
@[simp] theorem State.putOut_out : (s.putOut l).out = fill 256 l := rfl
@[simp] theorem State.putOut_schedule : (s.putOut l).schedule = s.schedule := rfl
@[simp] theorem State.putOut_reads : (s.putOut l).reads = s.reads := rfl
@[simp] theorem State.putOut_draws : (s.putOut l).draws = s.draws := rfl

end putOut

section putWVer

variable (s : State) (v : WVer)

@[simp] theorem State.putWVer_irqEn : (s.putWVer v).irqEn = s.irqEn := rfl
@[simp] theorem State.putWVer_cmd : (s.putWVer v).cmd = s.cmd := rfl
@[simp] theorem State.putWVer_lcmd : (s.putWVer v).lcmd = s.lcmd := rfl
@[simp] theorem State.putWVer_busy : (s.putWVer v).busy = s.busy := rfl
@[simp] theorem State.putWVer_done : (s.putWVer v).done = s.done := rfl
@[simp] theorem State.putWVer_result : (s.putWVer v).result = s.result := rfl
@[simp] theorem State.putWVer_path : (s.putWVer v).path = s.path := rfl
@[simp] theorem State.putWVer_illegal : (s.putWVer v).illegal = s.illegal := rfl
@[simp] theorem State.putWVer_busyErr : (s.putWVer v).busyErr = s.busyErr := rfl
@[simp] theorem State.putWVer_accErr : (s.putWVer v).accErr = s.accErr := rfl
@[simp] theorem State.putWVer_reason : (s.putWVer v).reason = s.reason := rfl
@[simp] theorem State.putWVer_inLen : (s.putWVer v).inLen = s.inLen := rfl
@[simp] theorem State.putWVer_symLen : (s.putWVer v).symLen = s.symLen := rfl
@[simp] theorem State.putWVer_outLen : (s.putWVer v).outLen = s.outLen := rfl
@[simp] theorem State.putWVer_polyRes : (s.putWVer v).polyRes = s.polyRes := rfl
@[simp] theorem State.putWVer_b58Info : (s.putWVer v).b58Info = s.b58Info := rfl
@[simp] theorem State.putWVer_b32Info : (s.putWVer v).b32Info = s.b32Info := rfl
@[simp] theorem State.putWVer_wver : (s.putWVer v).wver = v := rfl
@[simp] theorem State.putWVer_chkCalc : (s.putWVer v).chkCalc = s.chkCalc := rfl
@[simp] theorem State.putWVer_chkPay : (s.putWVer v).chkPay = s.chkPay := rfl
@[simp] theorem State.putWVer_inBuf : (s.putWVer v).inBuf = s.inBuf := rfl
@[simp] theorem State.putWVer_sym : (s.putWVer v).sym = s.sym := rfl
@[simp] theorem State.putWVer_payload : (s.putWVer v).payload = s.payload := rfl
@[simp] theorem State.putWVer_out : (s.putWVer v).out = s.out := rfl
@[simp] theorem State.putWVer_schedule : (s.putWVer v).schedule = s.schedule := rfl
@[simp] theorem State.putWVer_reads : (s.putWVer v).reads = s.reads := rfl
@[simp] theorem State.putWVer_draws : (s.putWVer v).draws = s.draws := rfl

end putWVer

section clearInput

variable (s : State)

@[simp] theorem State.clearInput_irqEn : (s.clearInput).irqEn = s.irqEn := rfl
@[simp] theorem State.clearInput_cmd : (s.clearInput).cmd = s.cmd := rfl
@[simp] theorem State.clearInput_lcmd : (s.clearInput).lcmd = s.lcmd := rfl
@[simp] theorem State.clearInput_busy : (s.clearInput).busy = s.busy := rfl
@[simp] theorem State.clearInput_done : (s.clearInput).done = s.done := rfl
@[simp] theorem State.clearInput_result : (s.clearInput).result = s.result := rfl
@[simp] theorem State.clearInput_path : (s.clearInput).path = s.path := rfl
@[simp] theorem State.clearInput_illegal : (s.clearInput).illegal = s.illegal := rfl
@[simp] theorem State.clearInput_busyErr : (s.clearInput).busyErr = s.busyErr := rfl
@[simp] theorem State.clearInput_accErr : (s.clearInput).accErr = s.accErr := rfl
@[simp] theorem State.clearInput_reason : (s.clearInput).reason = s.reason := rfl
@[simp] theorem State.clearInput_inLen : (s.clearInput).inLen = 0 := rfl
@[simp] theorem State.clearInput_symLen : (s.clearInput).symLen = s.symLen := rfl
@[simp] theorem State.clearInput_outLen : (s.clearInput).outLen = s.outLen := rfl
@[simp] theorem State.clearInput_polyRes : (s.clearInput).polyRes = s.polyRes := rfl
@[simp] theorem State.clearInput_b58Info : (s.clearInput).b58Info = s.b58Info := rfl
@[simp] theorem State.clearInput_b32Info : (s.clearInput).b32Info = s.b32Info := rfl
@[simp] theorem State.clearInput_wver : (s.clearInput).wver = s.wver := rfl
@[simp] theorem State.clearInput_chkCalc : (s.clearInput).chkCalc = s.chkCalc := rfl
@[simp] theorem State.clearInput_chkPay : (s.clearInput).chkPay = s.chkPay := rfl
@[simp] theorem State.clearInput_inBuf : (s.clearInput).inBuf = Vector.replicate 90 0 := rfl
@[simp] theorem State.clearInput_sym : (s.clearInput).sym = s.sym := rfl
@[simp] theorem State.clearInput_payload : (s.clearInput).payload = s.payload := rfl
@[simp] theorem State.clearInput_out : (s.clearInput).out = s.out := rfl
@[simp] theorem State.clearInput_schedule : (s.clearInput).schedule = s.schedule := rfl
@[simp] theorem State.clearInput_reads : (s.clearInput).reads = s.reads := rfl
@[simp] theorem State.clearInput_draws : (s.clearInput).draws = s.draws := rfl

end clearInput

section complete

variable (s : State) (p : Bool) (c : Reason)

@[simp] theorem State.complete_irqEn : (s.complete p c).irqEn = s.irqEn := rfl
@[simp] theorem State.complete_cmd : (s.complete p c).cmd = s.cmd := rfl
@[simp] theorem State.complete_lcmd : (s.complete p c).lcmd = s.lcmd := rfl
@[simp] theorem State.complete_busy : (s.complete p c).busy = false := rfl
@[simp] theorem State.complete_done : (s.complete p c).done = true := rfl
@[simp] theorem State.complete_result : (s.complete p c).result = decide (c = .ok) := rfl
@[simp] theorem State.complete_path : (s.complete p c).path = p := rfl
@[simp] theorem State.complete_illegal : (s.complete p c).illegal = s.illegal := rfl
@[simp] theorem State.complete_busyErr : (s.complete p c).busyErr = s.busyErr := rfl
@[simp] theorem State.complete_accErr : (s.complete p c).accErr = s.accErr := rfl
@[simp] theorem State.complete_reason : (s.complete p c).reason = c := rfl
@[simp] theorem State.complete_inLen : (s.complete p c).inLen = s.inLen := rfl
@[simp] theorem State.complete_symLen : (s.complete p c).symLen = s.symLen := rfl
@[simp] theorem State.complete_outLen : (s.complete p c).outLen = s.outLen := rfl
@[simp] theorem State.complete_polyRes : (s.complete p c).polyRes = s.polyRes := rfl
@[simp] theorem State.complete_b58Info : (s.complete p c).b58Info = s.b58Info := rfl
@[simp] theorem State.complete_b32Info : (s.complete p c).b32Info = s.b32Info := rfl
@[simp] theorem State.complete_wver : (s.complete p c).wver = s.wver := rfl
@[simp] theorem State.complete_chkCalc : (s.complete p c).chkCalc = s.chkCalc := rfl
@[simp] theorem State.complete_chkPay : (s.complete p c).chkPay = s.chkPay := rfl
@[simp] theorem State.complete_inBuf : (s.complete p c).inBuf = s.inBuf := rfl
@[simp] theorem State.complete_sym : (s.complete p c).sym = s.sym := rfl
@[simp] theorem State.complete_payload : (s.complete p c).payload = s.payload := rfl
@[simp] theorem State.complete_out : (s.complete p c).out = s.out := rfl
@[simp] theorem State.complete_schedule : (s.complete p c).schedule = s.schedule := rfl
@[simp] theorem State.complete_reads : (s.complete p c).reads = s.reads := rfl
@[simp] theorem State.complete_draws : (s.complete p c).draws = s.draws := rfl

end complete

section issue

variable (s : State) (w : Word)

@[simp] theorem State.issue_irqEn : (s.issue w).irqEn = s.irqEn := rfl
@[simp] theorem State.issue_cmd : (s.issue w).cmd = w := rfl
@[simp] theorem State.issue_lcmd : (s.issue w).lcmd = w := rfl
@[simp] theorem State.issue_busy : (s.issue w).busy = true := rfl
@[simp] theorem State.issue_done : (s.issue w).done = false := rfl
@[simp] theorem State.issue_result : (s.issue w).result = s.result := rfl
@[simp] theorem State.issue_path : (s.issue w).path = s.path := rfl
@[simp] theorem State.issue_illegal : (s.issue w).illegal = s.illegal := rfl
@[simp] theorem State.issue_busyErr : (s.issue w).busyErr = s.busyErr := rfl
@[simp] theorem State.issue_accErr : (s.issue w).accErr = s.accErr := rfl
@[simp] theorem State.issue_reason : (s.issue w).reason = s.reason := rfl
@[simp] theorem State.issue_inLen : (s.issue w).inLen = s.inLen := rfl
@[simp] theorem State.issue_symLen : (s.issue w).symLen = s.symLen := rfl
@[simp] theorem State.issue_outLen : (s.issue w).outLen = s.outLen := rfl
@[simp] theorem State.issue_polyRes : (s.issue w).polyRes = s.polyRes := rfl
@[simp] theorem State.issue_b58Info : (s.issue w).b58Info = s.b58Info := rfl
@[simp] theorem State.issue_b32Info : (s.issue w).b32Info = s.b32Info := rfl
@[simp] theorem State.issue_wver : (s.issue w).wver = s.wver := rfl
@[simp] theorem State.issue_chkCalc : (s.issue w).chkCalc = s.chkCalc := rfl
@[simp] theorem State.issue_chkPay : (s.issue w).chkPay = s.chkPay := rfl
@[simp] theorem State.issue_inBuf : (s.issue w).inBuf = s.inBuf := rfl
@[simp] theorem State.issue_sym : (s.issue w).sym = s.sym := rfl
@[simp] theorem State.issue_payload : (s.issue w).payload = s.payload := rfl
@[simp] theorem State.issue_out : (s.issue w).out = s.out := rfl
@[simp] theorem State.issue_schedule : (s.issue w).schedule = s.schedule := rfl
@[simp] theorem State.issue_reads : (s.issue w).reads = s.reads := rfl
@[simp] theorem State.issue_draws : (s.issue w).draws = s.draws := rfl

end issue

section raiseIllegal

variable (s : State) (w : Word)

@[simp] theorem State.raiseIllegal_irqEn : (s.raiseIllegal w).irqEn = s.irqEn := rfl
@[simp] theorem State.raiseIllegal_cmd : (s.raiseIllegal w).cmd = w := rfl
@[simp] theorem State.raiseIllegal_lcmd : (s.raiseIllegal w).lcmd = s.lcmd := rfl
@[simp] theorem State.raiseIllegal_busy : (s.raiseIllegal w).busy = s.busy := rfl
@[simp] theorem State.raiseIllegal_done : (s.raiseIllegal w).done = true := rfl
@[simp] theorem State.raiseIllegal_result : (s.raiseIllegal w).result = false := rfl
@[simp] theorem State.raiseIllegal_path : (s.raiseIllegal w).path = false := rfl
@[simp] theorem State.raiseIllegal_illegal : (s.raiseIllegal w).illegal = true := rfl
@[simp] theorem State.raiseIllegal_busyErr : (s.raiseIllegal w).busyErr = s.busyErr := rfl
@[simp] theorem State.raiseIllegal_accErr : (s.raiseIllegal w).accErr = s.accErr := rfl
@[simp] theorem State.raiseIllegal_reason : (s.raiseIllegal w).reason = .illegalCmd := rfl
@[simp] theorem State.raiseIllegal_inLen : (s.raiseIllegal w).inLen = s.inLen := rfl
@[simp] theorem State.raiseIllegal_symLen : (s.raiseIllegal w).symLen = s.symLen := rfl
@[simp] theorem State.raiseIllegal_outLen : (s.raiseIllegal w).outLen = s.outLen := rfl
@[simp] theorem State.raiseIllegal_polyRes : (s.raiseIllegal w).polyRes = s.polyRes := rfl
@[simp] theorem State.raiseIllegal_b58Info : (s.raiseIllegal w).b58Info = s.b58Info := rfl
@[simp] theorem State.raiseIllegal_b32Info : (s.raiseIllegal w).b32Info = s.b32Info := rfl
@[simp] theorem State.raiseIllegal_wver : (s.raiseIllegal w).wver = s.wver := rfl
@[simp] theorem State.raiseIllegal_chkCalc : (s.raiseIllegal w).chkCalc = s.chkCalc := rfl
@[simp] theorem State.raiseIllegal_chkPay : (s.raiseIllegal w).chkPay = s.chkPay := rfl
@[simp] theorem State.raiseIllegal_inBuf : (s.raiseIllegal w).inBuf = s.inBuf := rfl
@[simp] theorem State.raiseIllegal_sym : (s.raiseIllegal w).sym = s.sym := rfl
@[simp] theorem State.raiseIllegal_payload : (s.raiseIllegal w).payload = s.payload := rfl
@[simp] theorem State.raiseIllegal_out : (s.raiseIllegal w).out = s.out := rfl
@[simp] theorem State.raiseIllegal_schedule : (s.raiseIllegal w).schedule = s.schedule := rfl
@[simp] theorem State.raiseIllegal_reads : (s.raiseIllegal w).reads = s.reads := rfl
@[simp] theorem State.raiseIllegal_draws : (s.raiseIllegal w).draws = s.draws := rfl

end raiseIllegal

section accessError

variable (s : State)

@[simp] theorem State.accessError_irqEn : (s.accessError).irqEn = s.irqEn := rfl
@[simp] theorem State.accessError_cmd : (s.accessError).cmd = s.cmd := rfl
@[simp] theorem State.accessError_lcmd : (s.accessError).lcmd = s.lcmd := rfl
@[simp] theorem State.accessError_busy : (s.accessError).busy = s.busy := rfl
@[simp] theorem State.accessError_done : (s.accessError).done = s.done := rfl
@[simp] theorem State.accessError_result : (s.accessError).result = s.result := rfl
@[simp] theorem State.accessError_path : (s.accessError).path = s.path := rfl
@[simp] theorem State.accessError_illegal : (s.accessError).illegal = s.illegal := rfl
@[simp] theorem State.accessError_busyErr : (s.accessError).busyErr = s.busyErr := rfl
@[simp] theorem State.accessError_accErr : (s.accessError).accErr = true := rfl
@[simp] theorem State.accessError_reason : (s.accessError).reason = s.reason := rfl
@[simp] theorem State.accessError_inLen : (s.accessError).inLen = s.inLen := rfl
@[simp] theorem State.accessError_symLen : (s.accessError).symLen = s.symLen := rfl
@[simp] theorem State.accessError_outLen : (s.accessError).outLen = s.outLen := rfl
@[simp] theorem State.accessError_polyRes : (s.accessError).polyRes = s.polyRes := rfl
@[simp] theorem State.accessError_b58Info : (s.accessError).b58Info = s.b58Info := rfl
@[simp] theorem State.accessError_b32Info : (s.accessError).b32Info = s.b32Info := rfl
@[simp] theorem State.accessError_wver : (s.accessError).wver = s.wver := rfl
@[simp] theorem State.accessError_chkCalc : (s.accessError).chkCalc = s.chkCalc := rfl
@[simp] theorem State.accessError_chkPay : (s.accessError).chkPay = s.chkPay := rfl
@[simp] theorem State.accessError_inBuf : (s.accessError).inBuf = s.inBuf := rfl
@[simp] theorem State.accessError_sym : (s.accessError).sym = s.sym := rfl
@[simp] theorem State.accessError_payload : (s.accessError).payload = s.payload := rfl
@[simp] theorem State.accessError_out : (s.accessError).out = s.out := rfl
@[simp] theorem State.accessError_schedule : (s.accessError).schedule = s.schedule := rfl
@[simp] theorem State.accessError_reads : (s.accessError).reads = s.reads := rfl
@[simp] theorem State.accessError_draws : (s.accessError).draws = s.draws := rfl

end accessError

section busyError

variable (s : State)

@[simp] theorem State.busyError_irqEn : (s.busyError).irqEn = s.irqEn := rfl
@[simp] theorem State.busyError_cmd : (s.busyError).cmd = s.cmd := rfl
@[simp] theorem State.busyError_lcmd : (s.busyError).lcmd = s.lcmd := rfl
@[simp] theorem State.busyError_busy : (s.busyError).busy = s.busy := rfl
@[simp] theorem State.busyError_done : (s.busyError).done = s.done := rfl
@[simp] theorem State.busyError_result : (s.busyError).result = s.result := rfl
@[simp] theorem State.busyError_path : (s.busyError).path = s.path := rfl
@[simp] theorem State.busyError_illegal : (s.busyError).illegal = s.illegal := rfl
@[simp] theorem State.busyError_busyErr : (s.busyError).busyErr = true := rfl
@[simp] theorem State.busyError_accErr : (s.busyError).accErr = s.accErr := rfl
@[simp] theorem State.busyError_reason : (s.busyError).reason = s.reason := rfl
@[simp] theorem State.busyError_inLen : (s.busyError).inLen = s.inLen := rfl
@[simp] theorem State.busyError_symLen : (s.busyError).symLen = s.symLen := rfl
@[simp] theorem State.busyError_outLen : (s.busyError).outLen = s.outLen := rfl
@[simp] theorem State.busyError_polyRes : (s.busyError).polyRes = s.polyRes := rfl
@[simp] theorem State.busyError_b58Info : (s.busyError).b58Info = s.b58Info := rfl
@[simp] theorem State.busyError_b32Info : (s.busyError).b32Info = s.b32Info := rfl
@[simp] theorem State.busyError_wver : (s.busyError).wver = s.wver := rfl
@[simp] theorem State.busyError_chkCalc : (s.busyError).chkCalc = s.chkCalc := rfl
@[simp] theorem State.busyError_chkPay : (s.busyError).chkPay = s.chkPay := rfl
@[simp] theorem State.busyError_inBuf : (s.busyError).inBuf = s.inBuf := rfl
@[simp] theorem State.busyError_sym : (s.busyError).sym = s.sym := rfl
@[simp] theorem State.busyError_payload : (s.busyError).payload = s.payload := rfl
@[simp] theorem State.busyError_out : (s.busyError).out = s.out := rfl
@[simp] theorem State.busyError_schedule : (s.busyError).schedule = s.schedule := rfl
@[simp] theorem State.busyError_reads : (s.busyError).reads = s.reads := rfl
@[simp] theorem State.busyError_draws : (s.busyError).draws = s.draws := rfl

end busyError

section acknowledge

variable (s : State) (v : Word)

@[simp] theorem State.acknowledge_irqEn : (s.acknowledge v).irqEn = s.irqEn := rfl
@[simp] theorem State.acknowledge_cmd : (s.acknowledge v).cmd = s.cmd := rfl
@[simp] theorem State.acknowledge_lcmd : (s.acknowledge v).lcmd = s.lcmd := rfl
@[simp] theorem State.acknowledge_busy : (s.acknowledge v).busy = s.busy := rfl
@[simp] theorem State.acknowledge_done : (s.acknowledge v).done = (s.done && !v.getLsbD 1) := rfl
@[simp] theorem State.acknowledge_result : (s.acknowledge v).result = s.result := rfl
@[simp] theorem State.acknowledge_path : (s.acknowledge v).path = s.path := rfl
@[simp] theorem State.acknowledge_illegal : (s.acknowledge v).illegal = (s.illegal && !v.getLsbD 8) := rfl
@[simp] theorem State.acknowledge_busyErr : (s.acknowledge v).busyErr = (s.busyErr && !v.getLsbD 9) := rfl
@[simp] theorem State.acknowledge_accErr : (s.acknowledge v).accErr = (s.accErr && !v.getLsbD 10) := rfl
@[simp] theorem State.acknowledge_reason : (s.acknowledge v).reason = s.reason := rfl
@[simp] theorem State.acknowledge_inLen : (s.acknowledge v).inLen = s.inLen := rfl
@[simp] theorem State.acknowledge_symLen : (s.acknowledge v).symLen = s.symLen := rfl
@[simp] theorem State.acknowledge_outLen : (s.acknowledge v).outLen = s.outLen := rfl
@[simp] theorem State.acknowledge_polyRes : (s.acknowledge v).polyRes = s.polyRes := rfl
@[simp] theorem State.acknowledge_b58Info : (s.acknowledge v).b58Info = s.b58Info := rfl
@[simp] theorem State.acknowledge_b32Info : (s.acknowledge v).b32Info = s.b32Info := rfl
@[simp] theorem State.acknowledge_wver : (s.acknowledge v).wver = s.wver := rfl
@[simp] theorem State.acknowledge_chkCalc : (s.acknowledge v).chkCalc = s.chkCalc := rfl
@[simp] theorem State.acknowledge_chkPay : (s.acknowledge v).chkPay = s.chkPay := rfl
@[simp] theorem State.acknowledge_inBuf : (s.acknowledge v).inBuf = s.inBuf := rfl
@[simp] theorem State.acknowledge_sym : (s.acknowledge v).sym = s.sym := rfl
@[simp] theorem State.acknowledge_payload : (s.acknowledge v).payload = s.payload := rfl
@[simp] theorem State.acknowledge_out : (s.acknowledge v).out = s.out := rfl
@[simp] theorem State.acknowledge_schedule : (s.acknowledge v).schedule = s.schedule := rfl
@[simp] theorem State.acknowledge_reads : (s.acknowledge v).reads = s.reads := rfl
@[simp] theorem State.acknowledge_draws : (s.acknowledge v).draws = s.draws := rfl

end acknowledge

section resetBlock

variable (s : State)

@[simp] theorem State.resetBlock_irqEn : (s.resetBlock).irqEn = State.reset.irqEn := rfl
@[simp] theorem State.resetBlock_cmd : (s.resetBlock).cmd = State.reset.cmd := rfl
@[simp] theorem State.resetBlock_lcmd : (s.resetBlock).lcmd = State.reset.lcmd := rfl
@[simp] theorem State.resetBlock_busy : (s.resetBlock).busy = State.reset.busy := rfl
@[simp] theorem State.resetBlock_done : (s.resetBlock).done = State.reset.done := rfl
@[simp] theorem State.resetBlock_result : (s.resetBlock).result = State.reset.result := rfl
@[simp] theorem State.resetBlock_path : (s.resetBlock).path = State.reset.path := rfl
@[simp] theorem State.resetBlock_illegal : (s.resetBlock).illegal = State.reset.illegal := rfl
@[simp] theorem State.resetBlock_busyErr : (s.resetBlock).busyErr = State.reset.busyErr := rfl
@[simp] theorem State.resetBlock_accErr : (s.resetBlock).accErr = State.reset.accErr := rfl
@[simp] theorem State.resetBlock_reason : (s.resetBlock).reason = State.reset.reason := rfl
@[simp] theorem State.resetBlock_inLen : (s.resetBlock).inLen = State.reset.inLen := rfl
@[simp] theorem State.resetBlock_symLen : (s.resetBlock).symLen = State.reset.symLen := rfl
@[simp] theorem State.resetBlock_outLen : (s.resetBlock).outLen = State.reset.outLen := rfl
@[simp] theorem State.resetBlock_polyRes : (s.resetBlock).polyRes = State.reset.polyRes := rfl
@[simp] theorem State.resetBlock_b58Info : (s.resetBlock).b58Info = State.reset.b58Info := rfl
@[simp] theorem State.resetBlock_b32Info : (s.resetBlock).b32Info = State.reset.b32Info := rfl
@[simp] theorem State.resetBlock_wver : (s.resetBlock).wver = State.reset.wver := rfl
@[simp] theorem State.resetBlock_chkCalc : (s.resetBlock).chkCalc = State.reset.chkCalc := rfl
@[simp] theorem State.resetBlock_chkPay : (s.resetBlock).chkPay = State.reset.chkPay := rfl
@[simp] theorem State.resetBlock_inBuf : (s.resetBlock).inBuf = State.reset.inBuf := rfl
@[simp] theorem State.resetBlock_sym : (s.resetBlock).sym = State.reset.sym := rfl
@[simp] theorem State.resetBlock_payload : (s.resetBlock).payload = State.reset.payload := rfl
@[simp] theorem State.resetBlock_out : (s.resetBlock).out = State.reset.out := rfl
@[simp] theorem State.resetBlock_schedule : (s.resetBlock).schedule = s.schedule := rfl
@[simp] theorem State.resetBlock_reads : (s.resetBlock).reads = s.reads := rfl
@[simp] theorem State.resetBlock_draws : (s.resetBlock).draws = s.draws := rfl

end resetBlock

section recordRead

variable (s : State) (v : Word)

@[simp] theorem State.recordRead_irqEn : (s.recordRead v).irqEn = s.irqEn := rfl
@[simp] theorem State.recordRead_cmd : (s.recordRead v).cmd = s.cmd := rfl
@[simp] theorem State.recordRead_lcmd : (s.recordRead v).lcmd = s.lcmd := rfl
@[simp] theorem State.recordRead_busy : (s.recordRead v).busy = s.busy := rfl
@[simp] theorem State.recordRead_done : (s.recordRead v).done = s.done := rfl
@[simp] theorem State.recordRead_result : (s.recordRead v).result = s.result := rfl
@[simp] theorem State.recordRead_path : (s.recordRead v).path = s.path := rfl
@[simp] theorem State.recordRead_illegal : (s.recordRead v).illegal = s.illegal := rfl
@[simp] theorem State.recordRead_busyErr : (s.recordRead v).busyErr = s.busyErr := rfl
@[simp] theorem State.recordRead_accErr : (s.recordRead v).accErr = s.accErr := rfl
@[simp] theorem State.recordRead_reason : (s.recordRead v).reason = s.reason := rfl
@[simp] theorem State.recordRead_inLen : (s.recordRead v).inLen = s.inLen := rfl
@[simp] theorem State.recordRead_symLen : (s.recordRead v).symLen = s.symLen := rfl
@[simp] theorem State.recordRead_outLen : (s.recordRead v).outLen = s.outLen := rfl
@[simp] theorem State.recordRead_polyRes : (s.recordRead v).polyRes = s.polyRes := rfl
@[simp] theorem State.recordRead_b58Info : (s.recordRead v).b58Info = s.b58Info := rfl
@[simp] theorem State.recordRead_b32Info : (s.recordRead v).b32Info = s.b32Info := rfl
@[simp] theorem State.recordRead_wver : (s.recordRead v).wver = s.wver := rfl
@[simp] theorem State.recordRead_chkCalc : (s.recordRead v).chkCalc = s.chkCalc := rfl
@[simp] theorem State.recordRead_chkPay : (s.recordRead v).chkPay = s.chkPay := rfl
@[simp] theorem State.recordRead_inBuf : (s.recordRead v).inBuf = s.inBuf := rfl
@[simp] theorem State.recordRead_sym : (s.recordRead v).sym = s.sym := rfl
@[simp] theorem State.recordRead_payload : (s.recordRead v).payload = s.payload := rfl
@[simp] theorem State.recordRead_out : (s.recordRead v).out = s.out := rfl
@[simp] theorem State.recordRead_schedule : (s.recordRead v).schedule = s.schedule := rfl
@[simp] theorem State.recordRead_reads : (s.recordRead v).reads = s.reads ++ [v] := rfl
@[simp] theorem State.recordRead_draws : (s.recordRead v).draws = s.draws := rfl

end recordRead

section countDraw

variable (s : State)

@[simp] theorem State.countDraw_irqEn : (s.countDraw).irqEn = s.irqEn := rfl
@[simp] theorem State.countDraw_cmd : (s.countDraw).cmd = s.cmd := rfl
@[simp] theorem State.countDraw_lcmd : (s.countDraw).lcmd = s.lcmd := rfl
@[simp] theorem State.countDraw_busy : (s.countDraw).busy = s.busy := rfl
@[simp] theorem State.countDraw_done : (s.countDraw).done = s.done := rfl
@[simp] theorem State.countDraw_result : (s.countDraw).result = s.result := rfl
@[simp] theorem State.countDraw_path : (s.countDraw).path = s.path := rfl
@[simp] theorem State.countDraw_illegal : (s.countDraw).illegal = s.illegal := rfl
@[simp] theorem State.countDraw_busyErr : (s.countDraw).busyErr = s.busyErr := rfl
@[simp] theorem State.countDraw_accErr : (s.countDraw).accErr = s.accErr := rfl
@[simp] theorem State.countDraw_reason : (s.countDraw).reason = s.reason := rfl
@[simp] theorem State.countDraw_inLen : (s.countDraw).inLen = s.inLen := rfl
@[simp] theorem State.countDraw_symLen : (s.countDraw).symLen = s.symLen := rfl
@[simp] theorem State.countDraw_outLen : (s.countDraw).outLen = s.outLen := rfl
@[simp] theorem State.countDraw_polyRes : (s.countDraw).polyRes = s.polyRes := rfl
@[simp] theorem State.countDraw_b58Info : (s.countDraw).b58Info = s.b58Info := rfl
@[simp] theorem State.countDraw_b32Info : (s.countDraw).b32Info = s.b32Info := rfl
@[simp] theorem State.countDraw_wver : (s.countDraw).wver = s.wver := rfl
@[simp] theorem State.countDraw_chkCalc : (s.countDraw).chkCalc = s.chkCalc := rfl
@[simp] theorem State.countDraw_chkPay : (s.countDraw).chkPay = s.chkPay := rfl
@[simp] theorem State.countDraw_inBuf : (s.countDraw).inBuf = s.inBuf := rfl
@[simp] theorem State.countDraw_sym : (s.countDraw).sym = s.sym := rfl
@[simp] theorem State.countDraw_payload : (s.countDraw).payload = s.payload := rfl
@[simp] theorem State.countDraw_out : (s.countDraw).out = s.out := rfl
@[simp] theorem State.countDraw_schedule : (s.countDraw).schedule = s.schedule := rfl
@[simp] theorem State.countDraw_reads : (s.countDraw).reads = s.reads := rfl
@[simp] theorem State.countDraw_draws : (s.countDraw).draws = s.draws + 1 := rfl

end countDraw

section setSchedule

variable (s : State) (es : List Event)

@[simp] theorem State.setSchedule_irqEn : (s.setSchedule es).irqEn = s.irqEn := rfl
@[simp] theorem State.setSchedule_cmd : (s.setSchedule es).cmd = s.cmd := rfl
@[simp] theorem State.setSchedule_lcmd : (s.setSchedule es).lcmd = s.lcmd := rfl
@[simp] theorem State.setSchedule_busy : (s.setSchedule es).busy = s.busy := rfl
@[simp] theorem State.setSchedule_done : (s.setSchedule es).done = s.done := rfl
@[simp] theorem State.setSchedule_result : (s.setSchedule es).result = s.result := rfl
@[simp] theorem State.setSchedule_path : (s.setSchedule es).path = s.path := rfl
@[simp] theorem State.setSchedule_illegal : (s.setSchedule es).illegal = s.illegal := rfl
@[simp] theorem State.setSchedule_busyErr : (s.setSchedule es).busyErr = s.busyErr := rfl
@[simp] theorem State.setSchedule_accErr : (s.setSchedule es).accErr = s.accErr := rfl
@[simp] theorem State.setSchedule_reason : (s.setSchedule es).reason = s.reason := rfl
@[simp] theorem State.setSchedule_inLen : (s.setSchedule es).inLen = s.inLen := rfl
@[simp] theorem State.setSchedule_symLen : (s.setSchedule es).symLen = s.symLen := rfl
@[simp] theorem State.setSchedule_outLen : (s.setSchedule es).outLen = s.outLen := rfl
@[simp] theorem State.setSchedule_polyRes : (s.setSchedule es).polyRes = s.polyRes := rfl
@[simp] theorem State.setSchedule_b58Info : (s.setSchedule es).b58Info = s.b58Info := rfl
@[simp] theorem State.setSchedule_b32Info : (s.setSchedule es).b32Info = s.b32Info := rfl
@[simp] theorem State.setSchedule_wver : (s.setSchedule es).wver = s.wver := rfl
@[simp] theorem State.setSchedule_chkCalc : (s.setSchedule es).chkCalc = s.chkCalc := rfl
@[simp] theorem State.setSchedule_chkPay : (s.setSchedule es).chkPay = s.chkPay := rfl
@[simp] theorem State.setSchedule_inBuf : (s.setSchedule es).inBuf = s.inBuf := rfl
@[simp] theorem State.setSchedule_sym : (s.setSchedule es).sym = s.sym := rfl
@[simp] theorem State.setSchedule_payload : (s.setSchedule es).payload = s.payload := rfl
@[simp] theorem State.setSchedule_out : (s.setSchedule es).out = s.out := rfl
@[simp] theorem State.setSchedule_schedule : (s.setSchedule es).schedule = es := rfl
@[simp] theorem State.setSchedule_reads : (s.setSchedule es).reads = s.reads := rfl
@[simp] theorem State.setSchedule_draws : (s.setSchedule es).draws = s.draws := rfl

end setSchedule

end Sys2Proof.Machine
end

