-- ==== Sys2Proof/Laws/Buffers.lean ====
section
/-! SUPPORT. Reading a buffer that a command filled, and the lengths of the commands' inputs. -/

namespace Sys2Proof.Machine

@[simp] theorem fill_get (n : Nat) (l : List Byte) (i : Nat) (h : i < n) : (fill n l)[i] = l.getD i 0 := by
  simp [fill]

theorem fill_nil (n : Nat) : fill n [] = Vector.replicate n 0 := by
  ext i h
  simp [fill]

theorem text_length (s : State) : s.text.length = min s.inLen.toNat 90 := by
  simp [State.text]

theorem symbols_length (s : State) : s.symbols.length = min s.symLen.toNat 192 := by
  simp [State.symbols]

/-- A string of at most 90 characters is stored whole (R43). -/
theorem text_length_of_le {s : State} (h : s.inLen.toNat ≤ 90) : s.text.length = s.inLen.toNat := by
  simp [text_length, h]

end Sys2Proof.Machine
end

