-- ==== Sys2Proof/Laws/Bus.lean ====
section
/-! SUPPORT. What a host access can do, said once. -/

namespace Sys2Proof.Machine

@[simp] theorem regAt_ctrl : regAt 0x004 = some .ctrl := by decide +kernel

@[simp] theorem regAt_cmd : regAt 0x008 = some .cmd := by decide +kernel

@[simp] theorem regAt_status : regAt 0x00C = some .status := by decide +kernel

@[simp] theorem regAt_inLen : regAt 0x014 = some .inLen := by decide +kernel

@[simp] theorem regAt_symLen : regAt 0x018 = some .symLen := by decide +kernel

/-- A host write is an access error, a busy error, or the store of its register (R89). -/
theorem hostWrite_cases (off : Offset) (strb : Strobe) (v : Word) (s : State) :
    hostWrite off strb v s = s.accessError ∨ hostWrite off strb v s = s.busyError ∨
    ∃ r, regAt off = some r ∧ readOnly r = false ∧ (s.busy = true → locks r = false) ∧ outOfRange r v = false ∧
      hostWrite off strb v s = storeReg v s r := by
  unfold hostWrite
  cases h : regAt off with
  | none => exact .inl rfl
  | some r =>
    dsimp only
    split
    · exact .inl rfl
    · split
      · exact .inl rfl
      · rename_i hro
        split
        · exact .inr (.inl rfl)
        · rename_i hlock
          split
          · exact .inl rfl
          · rename_i hrange
            exact .inr (.inr ⟨r, rfl, by simpa using hro, fun hb => by simpa [hb] using hlock, by simpa using hrange, rfl⟩)

/-- A host read leaves the state, or sets ACCERR, or counts a free word (R85, R88, R92). -/
theorem hostRead_state (off : Offset) (s : State) :
    (hostRead off s).2 = s ∨ (hostRead off s).2 = s.accessError ∨ (s.busy = true ∧ (hostRead off s).2 = s.countDraw) := by
  unfold hostRead
  cases regAt off with
  | none => exact .inr (.inl rfl)
  | some r =>
    by_cases h : (s.busy && !readableWhileBusy r) = true
    · refine .inr (.inr ⟨by simp at h; exact h.1, by simp only [h, if_true]⟩)
    · refine .inl (by simp only [h]; simp)

end Sys2Proof.Machine
end

