-- ==== Sys2Proof/Laws/Decode.lean ====
section
/-! SUPPORT. The layout of the command word loses no bit: fields and word determine each other (R111, R112). -/

namespace Sys2Proof

@[simp] theorem networkOf_networkBit (n : Network) : networkOf (networkBit n) = n := by
  cases n <;> rfl

@[simp] theorem networkBit_networkOf (b : Bool) : networkBit (networkOf b) = b := by
  cases b <;> rfl

theorem fieldsOf_wordOf (x : Fields) : fieldsOf (wordOf x) = x := by
  obtain ⟨op, n, z1, f, t, p, s, z2⟩ := x
  simp only [fieldsOf, wordOf, Fields.mk.injEq]
  refine ⟨?_, ?_, ?_, ?_, ?_, ?_, ?_, ?_⟩
  case refine_2 => simp only [BitVec.getLsbD_append]; simp
  case refine_6 => simp only [BitVec.getLsbD_append]; simp
  case refine_7 => simp only [BitVec.getLsbD_append]; simp
  all_goals
    apply BitVec.eq_of_getLsbD_eq
    intro i hi
    simp only [BitVec.getLsbD_extractLsb', BitVec.getLsbD_append]
    interval_cases i <;> simp

theorem wordOf_fieldsOf (w : Word) : wordOf (fieldsOf w) = w := by
  apply BitVec.eq_of_getLsbD_eq
  intro i hi
  simp only [fieldsOf, wordOf, BitVec.getLsbD_append, BitVec.getLsbD_extractLsb', BitVec.getLsbD_ofBool]
  interval_cases i <;> simp

end Sys2Proof
end

