-- ==== Sys2Proof/Laws/Exec.lean ====
section
/-! SUPPORT. What the completion of a command can answer, said once: the state `completed i s` for a command, a refusal for a term that is
no command. -/

namespace Sys2Proof.Machine

/-- The state after the completion of a command (R272). -/
def completed : Instr → State → State
  | .clr, s => s.clearData.complete false .ok
  | .b58dec, s => b58decDone Config.params s
  | .b58chk n, s => b58chkDone Config.params n s
  | .poly, s => polyDone s
  | .hrpx, s => hrpxDone s
  | .b32dec, s => b32decDone Config.params s
  | .regrp f t pad skip, s => regrpDone f.toNat t.toNat pad skip s
  | .segwit n, s => segwitDone Config.params n s
  | .validate n, s => validateDone Config.params n s

theorem exec_eq_completed {i : Instr} (h : WellFormed i) (s : State) : exec i s = .next (completed i s) := by
  cases i with
  | regrp f t pad skip =>
    have hw : (widthOk f && widthOk t) = true := h
    simp [exec, execRegrp, completed, hw]
  | _ => rfl

theorem exec_illFormed {i : Instr} (h : ¬ WellFormed i) (s : State) : exec i s = .refused .illegalWidth := by
  cases i with
  | regrp f t pad skip =>
    have hw : ¬ (widthOk f && widthOk t) = true := h
    simp [exec, execRegrp, hw]
  | _ => exact absurd rfl h

/-- A completion that answers a next state is one of a command, and the state is `completed i s`. -/
theorem exec_next {i : Instr} {s t : State} (h : exec i s = .next t) : WellFormed i ∧ t = completed i s := by
  by_cases hw : WellFormed i
  · rw [exec_eq_completed hw] at h
    exact ⟨hw, (Host.Outcome.next.inj h).symm⟩
  · rw [exec_illFormed hw] at h
    cases h

/-- Every completion ends with `complete` on a state in which only data registers were written (R272). -/
theorem completed_shape (i : Instr) (s : State) :
    ∃ (u : State) (p : Bool) (c : Reason), completed i s = u.complete p c ∧
      u.irqEn = s.irqEn ∧ u.cmd = s.cmd ∧ u.lcmd = s.lcmd ∧ u.illegal = s.illegal ∧ u.busyErr = s.busyErr ∧ u.accErr = s.accErr ∧
      u.schedule = s.schedule ∧ u.reads = s.reads ∧ u.draws = s.draws := by
  cases i with
  | hrpx =>
    by_cases h : 90 < s.inLen.toNat
    · exact ⟨s.putSymbols [], false, .inTooLong, by simp [completed, hrpxDone, h], by simp⟩
    · exact ⟨s.putSymbols (hrpExpand s.text), false, .ok, by simp [completed, hrpxDone, h], by simp⟩
  | validate n =>
    by_cases h : takesBech32 n s.inLen.toNat s.text
    · exact ⟨_, _, _, by simp only [completed, validateDone, h, if_true]; rfl,
        by simp [State.clearBase58, State.putSegwit, State.putDecode32]⟩
    · exact ⟨_, _, _, by simp only [completed, validateDone, h]; rfl,
        by simp [State.clearBech32, State.putCheck58, State.putDecode32]⟩
  | _ =>
    exact ⟨_, _, _, rfl, by
      simp [State.clearData, State.putCheck58, State.putDecode32, State.putSegwit]⟩

end Sys2Proof.Machine
end

