-- ==== Sys2Proof/Laws/PerInstr.lean ====
section
/-! SUPPORT. Statements made per instruction. Layout: the word of a command holds exactly its fields, each at its own place (R111, R112,
R116). -/

namespace Sys2Proof.Laws.Layout

/-- Extracting the fields of a command's word gives the fields the encoder put there. -/
def Statement (i : Instr) : Prop := fieldsOf (encode i) = encodeFields i

theorem clr : Statement .clr := fieldsOf_wordOf _

theorem b58dec : Statement .b58dec := fieldsOf_wordOf _

theorem b58chk (n : Network) : Statement (.b58chk n) := fieldsOf_wordOf _

theorem poly : Statement .poly := fieldsOf_wordOf _

theorem hrpx : Statement .hrpx := fieldsOf_wordOf _

theorem b32dec : Statement .b32dec := fieldsOf_wordOf _

theorem regrp (f t : BitVec 4) (pad skip : Bool) : Statement (.regrp f t pad skip) := fieldsOf_wordOf _

theorem segwit (n : Network) : Statement (.segwit n) := fieldsOf_wordOf _

theorem validate (n : Network) : Statement (.validate n) := fieldsOf_wordOf _

end Sys2Proof.Laws.Layout
end

