-- ==== Sys2Proof/Laws/Sha256.lean ====
section
/-! SUPPORT. SHA-256 as FIPS 180-4 defines it, which the spec names as the intended `sha256` (R8) and does not define. The model does not
use it: it is here so that the spec's checksum vectors can be tested. Log entry 16. -/

namespace Sys2Proof.Laws

/-- The round constants. -/
def shaK : List Word :=
  [0x428a2f98, 0x71374491, 0xb5c0fbcf, 0xe9b5dba5, 0x3956c25b, 0x59f111f1, 0x923f82a4, 0xab1c5ed5] ++
  [0xd807aa98, 0x12835b01, 0x243185be, 0x550c7dc3, 0x72be5d74, 0x80deb1fe, 0x9bdc06a7, 0xc19bf174] ++
  [0xe49b69c1, 0xefbe4786, 0x0fc19dc6, 0x240ca1cc, 0x2de92c6f, 0x4a7484aa, 0x5cb0a9dc, 0x76f988da] ++
  [0x983e5152, 0xa831c66d, 0xb00327c8, 0xbf597fc7, 0xc6e00bf3, 0xd5a79147, 0x06ca6351, 0x14292967] ++
  [0x27b70a85, 0x2e1b2138, 0x4d2c6dfc, 0x53380d13, 0x650a7354, 0x766a0abb, 0x81c2c92e, 0x92722c85] ++
  [0xa2bfe8a1, 0xa81a664b, 0xc24b8b70, 0xc76c51a3, 0xd192e819, 0xd6990624, 0xf40e3585, 0x106aa070] ++
  [0x19a4c116, 0x1e376c08, 0x2748774c, 0x34b0bcb5, 0x391c0cb3, 0x4ed8aa4a, 0x5b9cca4f, 0x682e6ff3] ++
  [0x748f82ee, 0x78a5636f, 0x84c87814, 0x8cc70208, 0x90befffa, 0xa4506ceb, 0xbef9a3f7, 0xc67178f2]

/-- The initial hash value. -/
def shaInit : Vector Word 8 :=
  #v[0x6a09e667, 0xbb67ae85, 0x3c6ef372, 0xa54ff53a, 0x510e527f, 0x9b05688c, 0x1f83d9ab, 0x5be0cd19]

/-- The message schedule, newest word first: `n` more words before `ws`. -/
def shaExtend : Nat → List Word → List Word
  | 0, ws => ws
  | n + 1, ws =>
    let a := ws.getD 1 0
    let b := ws.getD 14 0
    let w := (a.rotateRight 17 ^^^ a.rotateRight 19 ^^^ a >>> 10) + ws.getD 6 0 +
      (b.rotateRight 7 ^^^ b.rotateRight 18 ^^^ b >>> 3) + ws.getD 15 0
    shaExtend n (w :: ws)

/-- One round. -/
def shaRound (h : Vector Word 8) (kw : Word) : Vector Word 8 :=
  let e := h[4]
  let a := h[0]
  let t := h[7] + (e.rotateRight 6 ^^^ e.rotateRight 11 ^^^ e.rotateRight 25) + ((e &&& h[5]) ^^^ (~~~e &&& h[6])) + kw
  let u := (a.rotateRight 2 ^^^ a.rotateRight 13 ^^^ a.rotateRight 22) + ((a &&& h[1]) ^^^ (a &&& h[2]) ^^^ (h[1] &&& h[2]))
  #v[t + u, a, h[1], h[2], h[3] + t, e, h[5], h[6]]

/-- The compression of one block of 16 words, given newest first. -/
def shaCompress (h : Vector Word 8) (block : List Word) : Vector Word 8 :=
  let r := ((shaExtend 48 block).reverse.zip shaK).foldl (fun s x => shaRound s (x.1 + x.2)) h
  Vector.ofFn fun i => h[i] + r[i]

/-- Big-endian words of a byte sequence, newest first. -/
def shaWords : List Byte → List Word → List Word
  | a :: b :: c :: d :: rest, acc => shaWords rest ((a ++ b ++ c ++ d) :: acc)
  | _, acc => acc

/-- SHA-256 of a message of at most 55 bytes, which is one block: all the block ever hashes is 21 and 32 bytes (R243). -/
def shaShort (m : List Byte) : Vector Byte 32 :=
  let padded := m ++ [0x80] ++ List.replicate (55 - m.length) 0 ++
    [0, 0, 0, 0, 0, 0, BitVec.ofNat 8 (m.length * 8 / 256), BitVec.ofNat 8 (m.length * 8)]
  let h := shaCompress shaInit (shaWords padded [])
  Vector.ofFn fun i => h[i.val / 4].extractLsb' (8 * (3 - i.val % 4)) 8

end Sys2Proof.Laws
end

