-- ==== Sys2Proof/Laws/Step.lean ====
section
/-! SUPPORT. What one step can do, said once: whose turn it is and what it answers. -/

namespace Sys2Proof.Machine

theorem step_access {s : State} {a : Access} {es : List Event} (h : s.schedule = .access a :: es) :
    step s = .next (hostAccess a (s.setSchedule es)) := by
  simp [step, advance, h, runEvent]

theorem step_reset {s : State} {as : List Access} {es : List Event} (h : s.schedule = .reset as :: es) :
    step s = .next (hostReset as (s.setSchedule es)) := by
  simp [step, advance, h, runEvent]

theorem step_engine {s : State} {es : List Event} (h : s.schedule = .engine :: es) : step s = engineTurn (s.setSchedule es) := by
  simp [step, advance, h, runEvent]

theorem step_end {s : State} (h : s.schedule = []) : step s = engineTurn s := by
  simp [step, advance, h]

theorem engineTurn_idle {s : State} (h : s.busy = false) : engineTurn s = .next s := by
  simp [engineTurn, h]

theorem engineTurn_busy {s : State} {i : Instr} (h : s.busy = true) (hd : decode s.lcmd = .ok i) : engineTurn s = exec i s := by
  simp [engineTurn, h, hd]

/-- The engine's turn answers a next state in two ways: the engine has no step, or it completes the latched command. -/
theorem engineTurn_next {s t : State} (h : engineTurn s = .next t) :
    (s.busy = false ∧ t = s) ∨
    (s.busy = true ∧ ∃ i, decode s.lcmd = .ok i ∧ WellFormed i ∧ t = completed i s) := by
  by_cases hb : s.busy = true
  · cases hd : decode s.lcmd with
    | error e => simp [engineTurn, hb, hd] at h
    | ok i =>
      rw [engineTurn_busy hb hd] at h
      exact .inr ⟨hb, i, rfl, exec_next h⟩
  · have hb : s.busy = false := by simpa using hb
    rw [engineTurn_idle hb] at h
    exact .inl ⟨hb, (Host.Outcome.next.inj h).symm⟩

/-- Every step that answers a next state is a host access, a reset, or the engine's turn. -/
theorem step_next {s t : State} (h : step s = .next t) :
    (∃ a es, s.schedule = .access a :: es ∧ t = hostAccess a (s.setSchedule es)) ∨
    (∃ as es, s.schedule = .reset as :: es ∧ t = hostReset as (s.setSchedule es)) ∨
    (∃ es, (s.schedule = .engine :: es ∨ (s.schedule = [] ∧ es = [])) ∧ engineTurn (s.setSchedule es) = .next t) := by
  cases hs : s.schedule with
  | nil =>
    rw [step_end hs] at h
    refine .inr (.inr ⟨[], .inr ⟨rfl, rfl⟩, ?_⟩)
    have : s.setSchedule [] = s := by
      cases s
      simp only at hs
      simp [State.setSchedule, hs]
    rwa [this]
  | cons e es =>
    cases e with
    | access a =>
      rw [step_access hs] at h
      exact .inl ⟨a, es, rfl, (Host.Outcome.next.inj h).symm⟩
    | reset as =>
      rw [step_reset hs] at h
      exact .inr (.inl ⟨as, es, rfl, (Host.Outcome.next.inj h).symm⟩)
    | engine =>
      rw [step_engine hs] at h
      exact .inr (.inr ⟨es, .inl rfl, h⟩)

end Sys2Proof.Machine
end

