-- ==== Sys2Proof/Machine/Script.lean ====
section
/-! DEFINITION. The host script of the spec as events of the schedule (R122, R123), and how a host presents a character (R342). -/

namespace Sys2Proof.Machine

/-- `wr <reg>, <value>` (R122). -/
def wr (r : Reg) (v : Word) : Event := .access (.write (BitVec.ofNat 13 (regOffset r)) 0xF v)

/-- `rd <reg>` (R122). -/
def rd (r : Reg) : Event := .access (.read (BitVec.ofNat 13 (regOffset r)))

/-- `cmd <mnemonic> [<operands>]` (R122). -/
def cmd (i : Instr) : Event := wr .cmd (encode i)

/-- The byte a host presents for the character of a code point: ASCII as its code, every other one as 0x00 (R342). -/
def charByte (codePoint : Nat) : Byte := if codePoint ≤ 0x7F then BitVec.ofNat 8 codePoint else 0x00

/-- The writes of a byte sequence into the elements of a buffer of `n` elements, from element `i` on. -/
def wrElements (n : Nat) (mk : Fin n → Reg) : (i : Nat) → List Byte → List Event
  | _, [] => []
  | i, b :: bs =>
    match elementAt n i mk with
    | none => []
    | some r => wr r (b.zeroExtend 32) :: wrElements n mk (i + 1) bs

/-- `loadstr` (R123). -/
def loadstr (text : List Byte) : List Event := wr .inLen (BitVec.ofNat 32 text.length) :: wrElements 90 .inBuf 0 text

/-- `loadsym` (R123), for at most 192 symbols. -/
def loadsym (vs : List Byte) : List Event := wr .symLen (BitVec.ofNat 32 vs.length) :: wrElements 192 .sym 0 vs

/-- `wait` (R123) whose first `k` reads of STATUS come before the engine's step and whose last one comes after it (R347). -/
def wait (k : Nat) : List Event := List.replicate k (rd .status) ++ [.engine, rd .status]

/-- `run <mnemonic> [<operands>]` (R123). -/
def run (k : Nat) (i : Instr) : List Event := cmd i :: wait k

/-- `ack` (R123). -/
def ack : Event := wr .status 0x00000702

end Sys2Proof.Machine
end

