-- ==== Sys2Proof/Tests/Slice0.lean ====
section
/-! SUPPORT. Tests of one step each, with expected values from spec/95_test_vectors.md (the row is named at each test) and from the
encoding tables of 30_encoding.md; and, for every statement with hypotheses, a witness that meets them. -/

namespace Sys2Proof.Tests

set_option Elab.async false

open Sys2Proof Sys2Proof.Machine

/-! ### Small states -/

/-- The bytes a host presents for a string (R342). -/
def ascii (s : String) : List Byte := s.toList.map fun c => charByte c.toNat

/-- Reset, then `loadstr` of the bytes. -/
def withBytes (l : List Byte) : State := { State.reset with inLen := BitVec.ofNat 32 l.length, inBuf := fill 90 l }

/-- Reset, then `loadstr` of the string. -/
def withText (s : String) : State := withBytes (ascii s)

/-- Reset, then `loadsym` of the symbols. -/
def withSymbols (l : List Byte) : State := State.reset.putSymbols l

/-- The parameters of the vectors: the defaults of R7, and FIPS 180-4 (section 0 of 95_test_vectors.md). -/
def usual : Params := { zeroDigit := .empty, emptyHrpOk := true, sha256 := Laws.shaShort }

/-- The outcome is a next state with the property `f`. -/
def nextHas (o : Host.Outcome State Fault Refusal) (f : State → Bool) : Bool :=
  match o with
  | .next t => f t
  | .fault _ => false
  | .refused _ => false

/-- The address of S1. -/
def s1 : String := "1AGNa15ZQXAZUgFiqJ2i7Z2DPU2J6hW62i"

/-- The address of S4. -/
def s4 : String := "BC1QW508D6QEJXTDG4Y5R3ZARVARY0C5XW7KV8F3T4"

/-- The symbols of S4 with its checksum. -/
def s4Symbols : List Byte :=
  [0, 14, 20, 15, 7, 13, 26, 0, 25, 18, 6, 11, 13, 8, 21, 4, 20, 3, 17, 2] ++
  [29, 3, 12, 29, 3, 4, 15, 24, 20, 6, 14, 30, 22, 12, 7, 9, 17, 11, 21]

/-- The witness program of S4. -/
def s4Program : List Byte :=
  [0x75, 0x1e, 0x76, 0xe8, 0x19, 0x91, 0x96, 0xd4, 0x54, 0x94, 0x1c, 0x45, 0xd1, 0xb3, 0xa3, 0x23, 0xf1, 0x43, 0x3b, 0xd6]

/-- The payload of S1. -/
def s1Payload : List Byte :=
  [0x00, 0x65, 0xa1, 0x60, 0x59, 0x86, 0x4a, 0x2f, 0xdb, 0xc7, 0xc9, 0x9a, 0x47] ++
  [0x23, 0xa8, 0x39, 0x5b, 0xc6, 0xf1, 0x88, 0xeb, 0xc0, 0x46, 0xb2, 0xff]

/-! ### Well-formedness: an ill-formed term for each check (R114) -/

theorem test_regrp_from_width_zero_is_illFormed : Instr.wf (.regrp 0 8 false false) = false := by decide

theorem test_regrp_from_width_nine_is_illFormed : Instr.wf (.regrp 9 8 false false) = false := by decide

theorem test_regrp_to_width_zero_is_illFormed : Instr.wf (.regrp 5 0 false false) = false := by decide

theorem test_regrp_to_width_nine_is_illFormed : Instr.wf (.regrp 5 9 false false) = false := by decide

theorem test_regrp_widths_at_their_bounds : Instr.wf (.regrp 1 8 true true) = true ∧ Instr.wf (.regrp 8 1 false true) = true := by decide

/-! ### Decoding: words written out from R117's patterns, Z2 | S | P | T | F | Z1 | N | OP -/

theorem test_decode_clr : decode 0b0000000000_0_0_0000_0000_000_0_00000001 = .ok .clr := by decide +kernel

theorem test_decode_b58dec : decode 0b0000000000_0_0_0000_0000_000_0_00010000 = .ok .b58dec := by decide +kernel

theorem test_decode_b58chk : decode 0b0000000000_0_0_0000_0000_000_1_00010001 = .ok (.b58chk .testnet) := by decide +kernel

theorem test_decode_poly : decode 0b0000000000_0_0_0000_0000_000_0_00100000 = .ok .poly := by decide +kernel

theorem test_decode_hrpx : decode 0b0000000000_0_0_0000_0000_000_0_00100001 = .ok .hrpx := by decide +kernel

theorem test_decode_b32dec : decode 0b0000000000_0_0_0000_0000_000_0_00100010 = .ok .b32dec := by decide +kernel

theorem test_decode_regrp : decode 0b0000000000_1_0_1000_0101_000_0_00100011 = .ok (.regrp 5 8 false true) := by decide +kernel

theorem test_decode_segwit : decode 0b0000000000_0_0_0000_0000_000_0_00100100 = .ok (.segwit .mainnet) := by decide +kernel

theorem test_decode_validate : decode 0b0000000000_0_0_0000_0000_000_1_00110000 = .ok (.validate .testnet) := by decide +kernel

/-- The twelve illegal words of section 2.11, each under the name of its reason. -/
theorem test_illegal_words :
    [0x00000000, 0x00000002, 0x00000012, 0x00000211, 0x00000230, 0x00001010].map decode =
      [.error .reservedOpcode, .error .reservedOpcode, .error .reservedOpcode, .error .reservedField, .error .reservedField,
        .error .unusedField] ∧
    [0x00285123, 0x00005023, 0x00095023, 0x00400023, 0x00800023, 0xFFFFFFFF].map decode =
      [.error .unusedField, .error .widthRange, .error .widthRange, .error .reservedField, .error .reservedField,
        .error .reservedOpcode] := by
  decide +kernel

/-- The words of the REGRP rows 11 and 2, and of VALIDATE testnet. -/
theorem test_encode : encode (.regrp 5 8 false true) = 0x00285023 ∧ encode (.regrp 8 5 true false) = 0x00158023 ∧
    encode (.validate .testnet) = 0x00000130 := by
  decide +kernel

theorem test_decodeTableWord : decodeTableWord 32 0x00285023 = some (.regrp 5 8 false true) ∧ decodeTableWord 32 0x23 = none := by
  decide +kernel

/-- R124's spelling. -/
theorem test_disassemble : disassemble 0x00285023 = "regrp f=5, t=8, skip1" ∧ disassemble 0x00000030 = "validate main" ∧
    disassemble 0x00005023 = ".illegal 0x00005023" := by
  decide +kernel

/-! ### The commands -/

/-- CLR-1: the data path is cleared and ILLEGAL and CTRL are kept. -/
theorem test_clr :
    nextHas (exec .clr { withText s4 with irqEn := true, illegal := true, cmd := 1, lcmd := 1, busy := true })
      (fun t => t.statusWord == 0x106 && t.inLen == 0 && t.inBuf == Vector.replicate 90 0 && t.irq && t.cmd == 1) = true := by
  decide +kernel

theorem test_clr_clears_symbols_and_outputs :
    nextHas (exec .clr { (withSymbols s4Symbols).putOut s4Program with chkPay := 7, wver := { ver := 3, wv := true } })
      (fun t => t.symLen == 0 && t.outLen == 0 && t.sym[1] == 0 && t.out[0] == 0 && t.chkPay == 0 && t.wver == .cleared) = true := by
  decide +kernel

/-- B58DEC-1. -/
theorem test_b58dec_s1 :
    (b58decDone usual (withText s1)).payload.toList = s1Payload ∧
    b58InfoWord (b58decDone usual (withText s1)).b58Info = 0x0001010C ∧ (b58decDone usual (withText s1)).statusWord = 0x6 := by
  decide +kernel

/-- B58DEC-10: the value 2^200 overflows to a zero payload. -/
theorem test_b58dec_overflow :
    (b58decDone usual (withText "2n1XR4oJkmBdJMxhBGQGb96gQ88xUzxLFyH")).payload = Vector.replicate 25 0 ∧
    b58InfoWord (b58decDone usual (withText "2n1XR4oJkmBdJMxhBGQGb96gQ88xUzxLFyH")).b58Info = 0x0000190A := by
  decide +kernel

/-- B58CHK-7: a correct checksum that is not canonical. -/
theorem test_b58chk_nonCanonical :
    (b58chkDone usual .mainnet (withText "11AGNa15ZQXAZUgFiqJ2i7Z2DPU2J6hW62i")).reason = .b58NonCanon ∧
    (b58chkDone usual .mainnet (withText "11AGNa15ZQXAZUgFiqJ2i7Z2DPU2J6hW62i")).chkCalc = 0xC046B2FF ∧
    (b58chkDone usual .mainnet (withText "11AGNa15ZQXAZUgFiqJ2i7Z2DPU2J6hW62i")).statusWord = 0x2 := by
  decide +kernel

/-- B58CHK-13: version byte 196 on testnet. -/
theorem test_b58chk_testnet :
    (b58chkDone usual .testnet (withText "2N2WbZHW2ZszHmdahdXKBA8NQkLXBN76c5z")).statusWord = 0x6 ∧
    (b58chkDone usual .testnet (withText "2N2WbZHW2ZszHmdahdXKBA8NQkLXBN76c5z")).chkPay = 0x1067A2D5 := by
  decide +kernel

/-- POLY-9: the full buffer. -/
theorem test_poly_full :
    nextHas (exec .poly (withSymbols (List.replicate 192 1)))
      (fun t => t.polyRes == 0x1EDBE36B && t.statusWord == 0x2 && t.reason == .polyNotOne) = true := by
  decide +kernel

/-- POLY-10: the checksum of S4. -/
theorem test_poly_s4 :
    nextHas (exec .poly (withSymbols ([3, 3, 0, 2, 3] ++ s4Symbols))) (fun t => t.polyRes == 1 && t.statusWord == 0x6) = true := by
  decide +kernel

/-- HRPX-5: no range check, no folding. -/
theorem test_hrpx_raw :
    nextHas (exec .hrpx (withBytes [0x80, 0x7F])) (fun t => t.symLen == 5 && t.symbols == [4, 3, 0, 0, 31]) = true := by
  decide +kernel

/-- HRPX-6: the longest string. -/
theorem test_hrpx_longest :
    nextHas (exec .hrpx (withBytes (List.replicate 90 0x61)))
      (fun t => t.symLen == 181 && t.sym[89] == 3 && t.sym[90] == 0 && t.sym[180] == 1 && t.sym[181] == 0) = true := by
  decide +kernel

/-- B32DEC-14: the last '1' separates. -/
theorem test_b32dec_separator :
    (b32decDone usual (withText "a1b1ry46dmuz")).symbols = [3, 4] ∧
    b32InfoWord (b32decDone usual (withText "a1b1ry46dmuz")).b32Info = 0x8803 ∧
    (b32decDone usual (withText "a1b1ry46dmuz")).statusWord = 0x6 := by
  decide +kernel

/-- B32DEC-7 with B32_EMPTY_HRP_OK = false. -/
theorem test_b32dec_emptyHrp :
    (b32decDone { usual with emptyHrpOk := false } (withText "1qpzceglat")).reason = .b32EmptyHrp ∧
    b32InfoWord (b32decDone { usual with emptyHrpOk := false } (withText "1qpzceglat")).b32Info = 0x8900 := by
  decide +kernel

/-- REGRP-12 and REGRP-11: with and without skip1. -/
theorem test_regrp_skip :
    nextHas (exec (.regrp 5 8 false false) (withSymbols (s4Symbols.take 33)))
      (fun t => t.reason == .regLeftover && t.statusWord == 0x2 && t.outLen == 0) = true ∧
    nextHas (exec (.regrp 5 8 false true) (withSymbols (s4Symbols.take 33)))
      (fun t => t.out[0] == 0x75 && t.out[19] == 0xd6 && t.out[20] == 0 && t.outLen == 20 && t.statusWord == 0x6) = true := by
  decide +kernel

/-- Past the capacity of OUT (33 * 8 = 264 values, R213), and exactly at it (REGRP-8). -/
theorem test_regrp_capacity :
    nextHas (exec (.regrp 8 1 false false) (withSymbols (List.replicate 33 255))) (fun t => t.reason == .regCapacity) = true ∧
    nextHas (exec (.regrp 8 1 false false) (withSymbols (List.replicate 32 255)))
      (fun t => t.outLen == 256 && t.out[255] == 1) = true := by
  decide +kernel

/-- SEGWIT-9: version 17 is rejected with its program in OUT. -/
theorem test_segwit_version17 :
    (segwitDone usual .mainnet (withText "bc13w508d6qejxtdg4y5r3zarvary0c5xw7kn40wf2")).reason = .segVersion ∧
    (segwitDone usual .mainnet (withText "bc13w508d6qejxtdg4y5r3zarvary0c5xw7kn40wf2")).outLen = 20 ∧
    wverWord (segwitDone usual .mainnet (withText "bc13w508d6qejxtdg4y5r3zarvary0c5xw7kn40wf2")).wver = 0x111 := by
  decide +kernel

/-- SEGWIT-2: the HRP "bc" on testnet leaves SYM and POLY_RES, and WVER 0. -/
theorem test_segwit_wrongHrp :
    (segwitDone usual .testnet (withText s4)).reason = .segHrp ∧ (segwitDone usual .testnet (withText s4)).symLen = 33 ∧
    (segwitDone usual .testnet (withText s4)).polyRes = 1 ∧ (segwitDone usual .testnet (withText s4)).wver = .cleared := by
  decide +kernel

/-- S1: the base58 path. -/
theorem test_validate_s1 :
    (validateDone usual .mainnet (withText s1)).statusWord = 0x6 ∧ (validateDone usual .mainnet (withText s1)).chkCalc = 0xC046B2FF ∧
    (validateDone usual .mainnet (withText s1)).payload.toList = s1Payload := by
  decide +kernel

/-- S4: the bech32 path. -/
theorem test_validate_s4 :
    (validateDone usual .mainnet (withText s4)).statusWord = 0xE ∧
    (validateDone usual .mainnet (withText s4)).out[19] = 0xd6 ∧
    (validateDone usual .mainnet (withText s4)).sym[1] = 14 ∧
    wverWord (validateDone usual .mainnet (withText s4)).wver = 0x100 := by
  decide +kernel

/-! ### The window -/

/-- ACC-1, ACC-2, ACC-7, ACC-8: refused writes set ACCERR. -/
theorem test_refused_writes :
    (hostWrite 0x000 0xF 5 State.reset).statusWord = 0x400 ∧ (hostWrite 0x018 0xF 193 State.reset).statusWord = 0x400 ∧
    (hostWrite 0x018 0xF 193 State.reset).symLen = 0 ∧ (hostWrite 0xC00 0xF 1 State.reset).statusWord = 0x400 ∧
    (hostWrite 0x568 0xF 1 State.reset).statusWord = 0x400 := by
  decide +kernel

/-- ACC-3, ACC-6: the largest SYM_LEN is stored; a partial write is refused. -/
theorem test_symLen_and_strobe :
    (hostWrite 0x018 0xF 192 State.reset).symLen = 192 ∧ (hostWrite 0x018 0xF 192 State.reset).statusWord = 0 ∧
    (hostWrite 0x014 0b0001 7 State.reset).statusWord = 0x400 ∧ (hostWrite 0x014 0b0001 7 State.reset).inLen = 0 := by
  decide +kernel

/-- ACC-4, ACC-5: a misaligned and an unmapped read. -/
theorem test_bad_reads :
    (hostRead 0x002 State.reset).1 = 0 ∧ (hostRead 0x002 State.reset).2.statusWord = 0x400 ∧
    (hostRead 0x038 State.reset).1 = 0 ∧ (hostRead 0x038 State.reset).2.statusWord = 0x400 := by
  decide +kernel

/-- ACC-10, ACC-11: a value is cut to its field. -/
theorem test_fields_are_cut :
    (hostRead 0x400 (hostWrite 0x400 0xF 0x1FF State.reset)).1 = 0xFF ∧
    (hostRead 0x004 (hostWrite 0x004 0xF 0xFFFFFFFF State.reset)).1 = 1 := by
  decide +kernel

/-- BUSY-1, BUSY-2: read-only comes before busy, busy before the range of SYM_LEN. -/
theorem test_checks_in_order :
    (hostWrite 0x02C 0xF 1 (State.reset.issue 0x30)).statusWord = 0x401 ∧
    (hostWrite 0x018 0xF 193 (State.reset.issue 0x30)).statusWord = 0x201 := by
  decide +kernel

/-- BUSY-3: four refused writes. -/
def afterBusyWrites : State :=
  accesses [.write 0x014 0xF 5, .write 0x400 0xF 0x32, .write 0x008 0xF 1, .write 0x018 0xF 200] ((withText s1).issue 0x30)

theorem test_busy_writes :
    afterBusyWrites.statusWord = 0x201 ∧ afterBusyWrites.inLen = 34 ∧ afterBusyWrites.inBuf[0] = 0x31 ∧ afterBusyWrites.cmd = 0x30 ∧
    afterBusyWrites.symLen = 0 := by
  decide +kernel

/-- BUSY-4: ID and CMD are readable while BUSY is 1, and the word read from REASON is a free value. -/
theorem test_busy_reads :
    (hostRead 0x000 (State.reset.issue 0x30)).1 = 0x42353844 ∧ (hostRead 0x008 (State.reset.issue 0x30)).1 = 0x30 ∧
    (hostRead 0x010 (State.reset.issue 0x30)).1 = Config.busyRead 0 := by
  refine ⟨by decide +kernel, by decide +kernel, rfl⟩

/-- BUSY-6: the acknowledge clears DONE and BUSYERR and keeps RESULT. -/
theorem test_acknowledge :
    (hostWrite 0x00C 0xF 0x702 { State.reset with done := true, result := true, busyErr := true, irqEn := true }).statusWord = 0x4 := by
  decide +kernel

/-- Section 2.11: an illegal word leaves the data registers and never sets BUSY. -/
theorem test_illegal_outcome :
    (hostWrite 0x008 0xF 0xFFFFFFFF { withSymbols [3, 3, 0, 2, 3] with result := true, done := true }).statusWord = 0x102 ∧
    regValue (hostWrite 0x008 0xF 0xFFFFFFFF (withSymbols [3, 3, 0, 2, 3])) .reason = 0xF0 ∧
    (hostWrite 0x008 0xF 0xFFFFFFFF (withSymbols [3, 3, 0, 2, 3])).symbols = [3, 3, 0, 2, 3] := by
  decide +kernel

/-- The script operations of R122 and R123 are the accesses of P1's first lines. -/
theorem test_script :
    wr .ctrl 1 = .access (.write 0x004 0xF 1) ∧ loadstr (ascii "bc") =
      [.access (.write 0x014 0xF 2), .access (.write 0x400 0xF 0x62), .access (.write 0x404 0xF 0x63)] ∧
    cmd (.validate .mainnet) = .access (.write 0x008 0xF 0x30) ∧ charByte 0xE9 = 0 := by
  decide +kernel

/-! ### Steps -/

/-- Every command runs as the first step after reset. -/
theorem test_first_step :
    [.clr, .b58dec, .b58chk .testnet, .poly, .hrpx, .b32dec, .regrp 5 8 false true, .segwit .mainnet, .validate .mainnet].all
      (fun i => nextHas (step (State.reset.withFetchWord 32 (encode i).toNat))
        (fun t => t.lcmd == encode i && t.done && !t.busy)) = true := by
  decide +kernel

/-- The REGRP base word has widths 0: it takes the illegal-command outcome. -/
theorem test_first_step_illegal :
    nextHas (step (State.reset.withFetchWord 32 0x23)) (fun t => t.statusWord == 0x102 && t.cmd == 0x23) = true := by
  decide +kernel

/-- P4, the write after the issue: refused while BUSY is 1. -/
theorem test_step_access :
    nextHas (step { (withText s1).issue 0x130 with schedule := [wr .inLen 0] })
      (fun t => t.statusWord == 0x201 && t.inLen == 34) = true := by
  decide +kernel

/-! ### Witnesses: for every statement with hypotheses, values that meet them -/

/-- A busy state that is not reset: B58DEC issued on the string of S1. -/
def issued : State := (withText s1).issue 0x10

theorem issued_inv : issued.Inv where
  busy_done := by decide +kernel
  busy_latch := by decide +kernel
  busy_legal := by decide +kernel
  symLen_le := by decide +kernel
  outLen_le := by decide +kernel
  zb_le := by decide +kernel
  lead1_le := by decide +kernel
  invPos_le := by decide +kernel
  dec_excl := by decide +kernel
  sepPos_le := by decide +kernel
  dataLen_le := by decide +kernel
  out_tail := by decide +kernel
  wver_clear := by decide +kernel
  result_ok := by decide +kernel
  ok_result := fun h => absurd h (by decide +kernel)
  path_validate := fun h => absurd h (by decide +kernel)

theorem issued_step : step issued = .next (completed .b58dec issued) := by
  rw [step_end rfl, engineTurn_busy rfl (i := .b58dec) (by decide +kernel)]
  rfl

theorem witness_LegalWordsMatchExactlyOneRow :
    (0x00000130 : Word) &&& maskWord .validate = matchWord .validate ∧ (0x00285023 : Word) &&& maskWord .regrp = matchWord .regrp := by
  decide +kernel

theorem witness_ReadReturnsTheRegister :
    regAt 0x568 = none ∧ regAt 0x002 = none ∧ (regAt 0x564 = some (.inBuf 89) ∧ State.reset.busy = false) ∧
    (regAt 0x000 = some .id ∧ issued.busy = true) ∧ (regAt 0x13FC = some (.out 255) ∧ issued.busy = true) := by
  decide +kernel

theorem witness_HostWriteChecksInOrder :
    (regAt 0x568 = none) ∧ ((0b0001 : Strobe) ≠ 0xF) ∧ (regAt 0xC60 = some (.payload 24) ∧ readOnly (.payload 24) = true) ∧
    (regAt 0xAFC = some (.sym 191) ∧ readOnly (.sym 191) = false ∧ issued.busy = true ∧ locks (.sym 191) = true) ∧
    (regAt 0x018 = some .symLen ∧ State.reset.busy = false ∧ 192 < (193 : Word).toNat) ∧
    (readOnly .symLen = false ∧ State.reset.busy = false ∧ (192 : Word).toNat ≤ 192) ∧
    (regAt 0x004 = some .ctrl ∧ readOnly .ctrl = false ∧ locks .ctrl = false ∧ Reg.ctrl ≠ Reg.symLen) := by
  decide +kernel

theorem witness_WriteStoresItsRegister :
    State.reset.busy = false ∧ (192 : Word).toNat ≤ 192 ∧ regAt 0x400 = some (.inBuf 0) ∧ regAt 0x564 = some (.inBuf 89) ∧
    regAt 0x800 = some (.sym 0) ∧ regAt 0xAFC = some (.sym 191) := by
  decide +kernel

theorem witness_WritesLeaveOtherRegisters :
    regAt 0x014 ≠ some .cmd ∧ Reg.symLen ≠ .status ∧ regAt 0x014 ≠ some .symLen := by
  decide +kernel

theorem witness_WrittenValueReadsBack :
    State.reset.busy = false ∧ (192 : Word).toNat ≤ 192 ∧ 192 < (193 : Word).toNat ∧ regAt 0x564 = some (.inBuf 89) ∧
    regAt 0xAFC = some (.sym 191) := by
  decide +kernel

theorem witness_CommandIssue :
    State.reset.busy = false ∧ legal 0x00000030 = true ∧ legal 0x00285123 = false ∧ issued.busy = true := by
  decide +kernel

theorem witness_IllegalWordOutcome : State.reset.busy = false ∧ legal 0x00095023 = false := by decide +kernel

theorem witness_InterruptFollowsDone :
    (0x00000702 : Word).getLsbD 1 = true ∧ State.reset.busy = false ∧ legal 0x00000001 = true ∧
    exec .clr issued = .next (completed .clr issued) :=
  ⟨by decide +kernel, rfl, by decide +kernel, rfl⟩

theorem witness_ResetAtAnyPoint : { issued with schedule := [.reset [], .engine] }.schedule = .reset [] :: [.engine] := rfl

theorem witness_StepRunsTheLatchedCommand :
    ({ issued with schedule := [.access (.read 0x00C)] }.schedule = [.access (.read 0x00C)]) ∧
    ({ issued with schedule := [.access (.write 0x004 0xF 1), .engine] }.schedule = .access (.write 0x004 0xF 1) :: [.engine]) ∧
    (issued.busy = true ∧ decode issued.lcmd = .ok .b58dec ∧ issued.schedule = [] ∧
      { issued with schedule := [.engine] }.schedule = [.engine]) ∧
    (State.reset.busy = false ∧ State.reset.schedule = [] ∧ { State.reset with schedule := [.engine] }.schedule = [.engine]) :=
  ⟨rfl, rfl, ⟨rfl, by decide +kernel, rfl, rfl⟩, rfl, rfl, rfl⟩

/-- A host read is a step, and its word joins the words read (R93, R350). -/
theorem test_step_read :
    nextHas (step { State.reset with schedule := [rd .id] }) (fun t => t.reads == [0x42353844] && t.schedule == []) = true := by
  decide +kernel

theorem witness_FetchedWordRunsNext : WellFormed (.regrp 1 8 true true) ∧ WellFormed (.regrp 8 1 false false) ∧ WellFormed .clr := by
  decide

theorem witness_InvariantKeptByEveryStep : issued.Inv ∧ step issued = .next (completed .b58dec issued) := ⟨issued_inv, issued_step⟩

theorem witness_NoStepStopsTheBlock : issued.Inv := issued_inv

theorem witness_EveryRunEnds : issued.Inv := issued_inv

/-- A host write that is the next step. -/
def writing (off : Offset) (strb : Strobe) (v : Word) (s : State) : State := { s with schedule := [.access (.write off strb v)] }

theorem writing_step (off : Offset) (strb : Strobe) (v : Word) (s : State) (h : s.schedule = []) :
    step (writing off strb v s) = .next (hostWrite off strb v s) := by
  rw [step_access rfl]
  cases s
  cases h
  rfl

theorem witness_MisuseFlagsChangeOnlyAsStated :
    (∃ t, step (writing 0x008 0xF 0 State.reset) = .next t ∧ State.reset.illegal = false ∧ t.illegal = true) ∧
    (∃ t, step (writing 0x014 0xF 0 issued) = .next t ∧ issued.busyErr = false ∧ t.busyErr = true) ∧
    (∃ t, step (writing 0x018 0xF 193 State.reset) = .next t ∧ State.reset.accErr = false ∧ t.accErr = true) ∧
    (∃ t, step (writing 0x00C 0xF 0x702 { State.reset with illegal := true }) = .next t ∧ t.illegal = false) ∧
    (∃ t, step (writing 0x00C 0xF 0x702 { issued with busyErr := true }) = .next t ∧ t.busyErr = false) ∧
    (∃ t, step (writing 0x00C 0xF 0x702 { issued with accErr := true }) = .next t ∧ t.accErr = false) := by
  refine ⟨⟨_, writing_step _ _ _ _ rfl, ?_⟩, ⟨_, writing_step _ _ _ _ rfl, ?_⟩, ⟨_, writing_step _ _ _ _ rfl, ?_⟩,
    ⟨_, writing_step _ _ _ _ rfl, ?_⟩, ⟨_, writing_step _ _ _ _ rfl, ?_⟩, ⟨_, writing_step _ _ _ _ rfl, ?_⟩⟩ <;> decide +kernel

theorem witness_BusyRisesAtIssueAndFallsAtCompletion :
    (∃ t, step (writing 0x008 0xF 0x30 State.reset) = .next t ∧ State.reset.busy = false ∧ t.busy = true) ∧
    (∃ t, step issued = .next t ∧ issued.busy = true ∧ t.busy = false) :=
  ⟨⟨_, writing_step _ _ _ _ rfl, rfl, by decide +kernel⟩, ⟨_, issued_step, rfl, rfl⟩⟩

theorem witness_CommandSeesItsInputsAtIssue :
    issued.busy = true ∧ exec .b58dec issued = .next (completed .b58dec issued) ∧
    exec .b58dec (accesses [.write 0x014 0xF 5, .read 0x00C] issued) =
      .next (completed .b58dec (accesses [.write 0x014 0xF 5, .read 0x00C] issued)) :=
  ⟨rfl, rfl, rfl⟩

theorem witness_CommandsWriteOnlyTheirOutputs :
    exec (.regrp 5 8 false true) (withSymbols s4Symbols) = .next (completed (.regrp 5 8 false true) (withSymbols s4Symbols)) ∧
    DataReg.sym ∉ outputs (.regrp 5 8 false true) :=
  ⟨exec_eq_completed (by decide) _, by decide⟩

theorem witness_CompletionReportsTheOutcome : exec .poly (withSymbols [0]) = .next (completed .poly (withSymbols [0])) := rfl

theorem witness_CommandsDependOnlyOnTheirInputs :
    (∀ r ∈ inputs .poly, sameReg (withSymbols [0]) { withSymbols [0] with inLen := 5, polyRes := 7 } r) ∧
    exec .poly (withSymbols [0]) = .next (completed .poly (withSymbols [0])) ∧
    exec .poly { withSymbols [0] with inLen := 5, polyRes := 7 } =
      .next (completed .poly { withSymbols [0] with inLen := 5, polyRes := 7 }) := by
  refine ⟨fun r hr => ?_, rfl, rfl⟩
  rcases List.mem_cons.1 hr with rfl | hr
  · rfl
  · rw [List.mem_singleton.1 hr]
    rfl

/-- Reset gives every part of the launch premise except the inputs (R335). -/
theorem reset_ready (i : Instr) (want : State) (h : ∀ r ∈ inputs i, sameReg State.reset want r) : State.reset.ready i want :=
  ⟨rfl, rfl, rfl, rfl, .inl (by decide), h⟩

/-- VAL-19: IN_LEN = 100 with "bc" in the first two elements. -/
def longText : State := { withText "bc" with inLen := 100 }

/-- VALIDATE defines a string of 100 characters (R344), so the block is ready for it; POLY does not read the string. -/
theorem witness_CommandsDependOnlyOnTheirInputs_ready :
    longText.ready (.validate .mainnet) longText ∧
    exec (.validate .mainnet) longText = .next (completed (.validate .mainnet) longText) ∧
    (withSymbols [0]).ready .poly { withSymbols [0] with inLen := 5 } ∧
    exec .poly { withSymbols [0] with inLen := 5 } = .next (completed .poly { withSymbols [0] with inLen := 5 }) := by
  refine ⟨⟨rfl, rfl, rfl, rfl, .inr rfl, fun r _ => ?_⟩, rfl, ⟨rfl, rfl, rfl, rfl, .inl (by decide +kernel), fun r hr => ?_⟩, rfl⟩
  · cases r <;> rfl
  · rcases List.mem_cons.1 hr with rfl | hr
    · rfl
    · rw [List.mem_singleton.1 hr]
      rfl

theorem test_ready_needs_a_stored_string : ¬ longText.ready .poly longText := fun h => by
  rcases h.length with h | h
  · exact absurd h (by decide +kernel)
  · exact absurd h (by decide)

theorem witness_EveryCommandCompletes : WellFormed (.validate .testnet) ∧ WellFormed (.regrp 8 8 false false) := by decide

theorem witness_IllegalWidthIsRefused :
    ¬ (1 ≤ (0 : BitVec 4).toNat ∧ (0 : BitVec 4).toNat ≤ 8 ∧ 1 ≤ (8 : BitVec 4).toNat ∧ (8 : BitVec 4).toNat ≤ 8) ∧
    ¬ (1 ≤ (8 : BitVec 4).toNat ∧ (8 : BitVec 4).toNat ≤ 8 ∧ 1 ≤ (9 : BitVec 4).toNat ∧ (9 : BitVec 4).toNat ≤ 8) := by
  decide

theorem witness_ReasonCodesByCommand :
    exec .poly (withSymbols [0]) = .next (completed .poly (withSymbols [0])) ∧
    exec (.validate .mainnet) (withText s4) = .next (completed (.validate .mainnet) (withText s4)) ∧
    (completed (.validate .mainnet) (withText s4)).path = true ∧
    exec (.validate .mainnet) (withText s1) = .next (completed (.validate .mainnet) (withText s1)) ∧
    (completed (.validate .mainnet) (withText s1)).path = false :=
  ⟨rfl, rfl, by decide +kernel, rfl, by decide +kernel⟩

theorem witness_LongStringsAreRejected :
    90 < longText.inLen.toNat ∧ startsWithHrp .mainnet longText ∧ ¬ startsWithHrp .testnet longText ∧
    exec .b58dec longText = .next (completed .b58dec longText) ∧ exec .hrpx longText = .next (completed .hrpx longText) ∧
    exec (.b58chk .mainnet) longText = .next (completed (.b58chk .mainnet) longText) ∧
    exec .b32dec longText = .next (completed .b32dec longText) ∧
    exec (.segwit .mainnet) longText = .next (completed (.segwit .mainnet) longText) ∧
    exec (.validate .mainnet) longText = .next (completed (.validate .mainnet) longText) ∧
    90 < (withBytes (List.replicate 91 0x31)).inLen.toNat :=
  ⟨by decide +kernel, ⟨by decide +kernel, by decide +kernel⟩, by unfold startsWithHrp; decide +kernel, rfl, rfl, rfl, rfl, rfl, rfl,
    by decide +kernel⟩

/-- CLR issued on a state with its flags up. -/
def clearing : State := { issued with cmd := 1, lcmd := 1, irqEn := true, illegal := true, polyRes := 7 }

theorem witness_ClrIsASoftReset :
    clearing.busy = true ∧ clearing.Inv ∧ clearing.lcmd = 0x00000001 ∧ exec .clr clearing = .next (completed .clr clearing) :=
  ⟨rfl,
    { issued_inv with
      busy_done := by decide +kernel
      busy_latch := by decide +kernel
      busy_legal := by decide +kernel
      result_ok := by decide +kernel
      ok_result := fun h => absurd h (by decide +kernel)
      path_validate := fun h => absurd h (by decide +kernel) },
    rfl, rfl⟩

theorem witness_AccumulatorTracksTheValue :
    valid58 (ascii s1) = true ∧ valid58 (List.replicate 35 0x7A) = true ∧ digit58 0x7A = some 57 := by
  decide +kernel

theorem witness_B58decDecodesValidStrings :
    (withText s1).inLen.toNat ≤ 90 ∧ valid58 (withText s1).text = true ∧ State.reset.inLen.toNat ≤ 90 ∧
    valid58 State.reset.text = true ∧ (withBytes (List.replicate 90 0x7A)).inLen.toNat ≤ 90 ∧
    valid58 (withBytes (List.replicate 90 0x7A)).text = true := by
  decide +kernel

theorem witness_B58decStopsAtTheFirstInvalidCharacter :
    (withText "11O1").inLen.toNat ≤ 90 ∧ (withText "11O1").text = [0x31, 0x31] ++ 0x4F :: [0x31] ∧ valid58 [0x31, 0x31] = true ∧
    digit58 0x4F = none ∧ (3 : Fin 90).val < (withText "11O1").inLen.toNat := by
  decide +kernel

theorem witness_CanonIsTheRoundTripTest :
    valid58 (ascii s1) = true ∧ valid58 (List.replicate 26 0x31) = true ∧
    ([0x00, 0x00] : List Byte).foldl (fun n x => n * 256 + x.toNat) 0 = 0 ∧
    ([0x00, 0x21] : List Byte).foldl (fun n x => n * 256 + x.toNat) 0 ≠ 0 := by
  decide +kernel

/-- S1's string is the encoding of its payload. -/
theorem witness_DecodingAnEncodingGivesTheBytesBack :
    (withText s1).text = base58Encode usual.zeroDigit (Vector.ofFn fun i : Fin 25 => s1Payload.getD i.val 0).toList ∧
    (withText s1).inLen.toNat = (withText s1).text.length := by
  decide +kernel

theorem witness_AcknowledgeClearsTheNamedFlags : ((4 ≤ 4 ∧ 4 ≤ 7) ∨ 11 ≤ 4) ∧ ((4 ≤ 11 ∧ 11 ≤ 7) ∨ 11 ≤ 11) := by decide

theorem witness_MagnitudeBounds :
    (valid58 (List.replicate 34 0x7A) = true ∧ (List.replicate 34 (0x7A : Byte)).length ≤ 34) ∧
    (valid58 (List.replicate 35 0x7A) = true ∧ (List.replicate 35 (0x7A : Byte)).length ≤ 35) := by
  decide +kernel

theorem witness_B58chkStepsInOrder :
    (withBytes (List.replicate 26 0x31)).inLen.toNat < 27 ∧ 35 < (withBytes (List.replicate 36 0x31)).inLen.toNat ∧
    (27 ≤ (withBytes (List.replicate 27 0x4F)).inLen.toNat ∧ (withBytes (List.replicate 27 0x4F)).inLen.toNat ≤ 35 ∧
      (withBytes (List.replicate 27 0x4F)).text = [] ++ 0x4F :: List.replicate 26 0x4F ∧ valid58 [] = true ∧ digit58 0x4F = none) ∧
    (27 ≤ (withBytes (List.replicate 35 0x7A)).inLen.toNat ∧ (withBytes (List.replicate 35 0x7A)).inLen.toNat ≤ 35 ∧
      valid58 (withBytes (List.replicate 35 0x7A)).text = true ∧
      (refPayload (withBytes (List.replicate 35 0x7A)).text)[0] ∉ magicBytes .mainnet) ∧
    (27 ≤ (withText s1).inLen.toNat ∧ (withText s1).inLen.toNat ≤ 35 ∧ valid58 (withText s1).text = true ∧
      (refPayload (withText s1).text)[0] ∈ magicBytes .mainnet) := by
  decide +kernel

theorem witness_PolymodFitsThirtyBits : ∀ v ∈ [2 ^ 30 - 1, 0], v < 2 ^ 30 := by decide

theorem witness_HrpxExpandsTheString :
    State.reset.inLen.toNat ≤ 90 ∧ 2 * State.reset.inLen.toNat < (1 : Fin 192).val ∧ 90 < longText.inLen.toNat ∧
    (withBytes (List.replicate 90 0x61)).inLen.toNat ≤ 90 ∧ (89 : Fin 90).val < (withBytes (List.replicate 90 0x61)).inLen.toNat ∧
    2 * (withBytes (List.replicate 90 0x61)).inLen.toNat < (181 : Fin 192).val := by
  decide +kernel

/-- B32DEC-9: "a", the separator, and six checksum symbols. -/
theorem witness_B32decAccepts :
    (withText "a12uel5l").inLen.toNat ≤ 90 ∧ (withText "a12uel5l").text = [0x61] ++ 0x31 :: ascii "2uel5l" ∧
    0x31 ∉ ascii "2uel5l" ∧ (∀ c ∈ (withText "a12uel5l").text, 0x21 ≤ c.toNat ∧ c.toNat ≤ 0x7E) ∧
    ¬ ((∃ c ∈ (withText "a12uel5l").text, isUpper c = true) ∧ (∃ c ∈ (withText "a12uel5l").text, isLower c = true)) ∧
    [(0x61 : Byte)] ≠ [] ∧ 6 ≤ (ascii "2uel5l").length ∧
    ((ascii "2uel5l").map fun c => charset5 (fold c)) = ([10, 28, 25, 31, 20, 31].map fun v : Byte => some v.toNat) ∧
    verifyChecksum ([0x61].map fold) [10, 28, 25, 31, 20, 31] = true := by
  decide +kernel

/-- The premises of the checks of B32DEC before the separator. -/
def plain32 (s : String) : Prop :=
  (withText s).inLen.toNat ≤ 90 ∧ (∀ c ∈ (withText s).text, 0x21 ≤ c.toNat ∧ c.toNat ≤ 0x7E) ∧
  ¬ ((∃ c ∈ (withText s).text, isUpper c = true) ∧ (∃ c ∈ (withText s).text, isLower c = true))

/-- B32DEC-17, -4, -3 and -6. -/
theorem witness_B32decFailsInOrder_strings :
    90 < (withBytes (List.replicate 91 0x61)).inLen.toNat ∧
    ((withText "bc1 q").inLen.toNat ≤ 90 ∧ ∃ c ∈ (withText "bc1 q").text, c.toNat < 0x21 ∨ 0x7E < c.toNat) ∧
    ((withText "Bc1q").inLen.toNat ≤ 90 ∧ (∀ c ∈ (withText "Bc1q").text, 0x21 ≤ c.toNat ∧ c.toNat ≤ 0x7E) ∧
      (∃ c ∈ (withText "Bc1q").text, isUpper c = true) ∧ (∃ c ∈ (withText "Bc1q").text, isLower c = true)) ∧
    (plain32 "bcqw508" ∧ 0x31 ∉ (withText "bcqw508").text) := by
  unfold plain32
  decide +kernel

/-- B32DEC-7, without an HRP. -/
theorem witness_B32decFailsInOrder_emptyHrp :
    plain32 "1qpzceglat" ∧ (withText "1qpzceglat").text = [] ++ 0x31 :: ascii "qpzceglat" ∧ 0x31 ∉ ascii "qpzceglat" := by
  unfold plain32
  decide +kernel

/-- B32DEC-10. -/
theorem witness_B32decFailsInOrder_shortData :
    plain32 "bc1qw508" ∧ (withText "bc1qw508").text = [0x62, 0x63] ++ 0x31 :: ascii "qw508" ∧ 0x31 ∉ ascii "qw508" ∧
    (ascii "qw508").length < 6 := by
  unfold plain32
  decide +kernel

/-- 'b' is not in the charset, as in B32DEC-11. -/
theorem witness_B32decFailsInOrder_charset :
    plain32 "bc1qw508b" ∧ (withText "bc1qw508b").text = [0x62, 0x63] ++ 0x31 :: ascii "qw508b" ∧ 0x31 ∉ ascii "qw508b" ∧
    6 ≤ (ascii "qw508b").length ∧ ∃ c ∈ ascii "qw508b", charset5 (fold c) = none := by
  unfold plain32
  decide +kernel

/-- B32DEC-13. -/
theorem witness_B32decFailsInOrder_checksum :
    plain32 "11qqqqqq" ∧ (withText "11qqqqqq").text = [0x31] ++ 0x31 :: ascii "qqqqqq" ∧ 0x31 ∉ ascii "qqqqqq" ∧
    6 ≤ (ascii "qqqqqq").length ∧
    ((ascii "qqqqqq").map fun c => charset5 (fold c)) = ([0, 0, 0, 0, 0, 0].map fun v : Byte => some v.toNat) ∧
    verifyChecksum ([0x31].map fold) [0, 0, 0, 0, 0, 0] = false := by
  unfold plain32
  decide +kernel

theorem witness_UpperCaseDecodesAsLowerCase :
    (∀ c ∈ (withText s4).text, isLower c = false) ∧ (withBytes ((ascii s4).map fold)).inLen = (withText s4).inLen ∧
    (withBytes ((ascii s4).map fold)).text = (withText s4).text.map fold := by
  decide +kernel

theorem witness_PolyGivesTheResidue :
    (191 : Fin 192).val < (withSymbols (List.replicate 192 1)).symLen.toNat ∧ (0 : Fin 192).val < (withSymbols [0]).symLen.toNat := by
  decide +kernel

theorem witness_RegrpFollowsConvertBits :
    1 ≤ (1 : BitVec 4).toNat ∧ (1 : BitVec 4).toNat ≤ 8 ∧ 1 ≤ (8 : BitVec 4).toNat ∧ (8 : BitVec 4).toNat ≤ 8 := by
  decide

/-- REGRP-2 and REGRP-15. -/
theorem witness_RegroupingPreservesTheBits :
    convertBits [255] 8 5 true = .values [31, 28] ∧ convertBits [0, 0] 5 8 false = .values [0] := by
  decide +kernel

theorem witness_RegrouperFacts :
    (∀ v ∈ [31, 0], v < 2 ^ 5) ∧ convertBits [0, 0] 5 8 false = .values [0] ∧ (∀ v ∈ [255], v < 2 ^ 8) := by
  decide +kernel

/-- REGRP-17, REGRP-3 and REGRP-14: no padding, with bits left over, with nonzero bits left, and with zero bits left. -/
theorem test_regrouping_without_padding :
    convertBits [1, 1, 1, 1] 2 3 false = .failLeftover ∧ convertBits [255] 8 5 false = .failPadBits ∧
    convertBits [0x75, 0x1E] 8 5 false = .values [14, 20, 15] := by
  decide +kernel

theorem witness_RangeFailureWins : 1 ≤ 5 ∧ 1 ≤ 8 := by decide

/-- The state after B32DEC of a string. -/
def b32Of (text : String) : State := completed .b32dec (withText text)

/-- The HRP of a decoded string is that of the network. -/
def hasHrp (n : Network) (text : String) : Prop :=
  (b32Of text).result = true ∧ ((withText text).text.take (b32Of text).b32Info.sepPos.toNat).map fold = hrpBytes n

/-- The regrouping of the program symbols after B32DEC. -/
def programOf (text : String) : Regrouped := convertBits (naturals ((b32Of text).symbols.drop 1)) 5 8 false

theorem witness_SegwitExtendsB32dec (text : String) : exec .b32dec (withText text) = .next (b32Of text) := rfl

/-- A bad checksum, SEGWIT-2, a string of an HRP alone (SEGWIT-16), SEGWIT-18 and SEGWIT-20. -/
theorem witness_SegwitExtendsB32dec_failures :
    (b32Of "bc1qw508").result = false ∧
    ((b32Of s4).result = true ∧ ((withText s4).text.take (b32Of s4).b32Info.sepPos.toNat).map fold ≠ hrpBytes .testnet) ∧
    (hasHrp .mainnet "bc1gmk9yu" ∧ (b32Of "bc1gmk9yu").symLen.toNat = 0 ∧ programOf "bc1gmk9yu" = .values []) ∧
    (hasHrp .mainnet ("bc1q" ++ "qqqqqqqqqqqqqqqqqqqqqqqqqqqqqqqqq" ++ "tzzsrf") ∧
      programOf ("bc1q" ++ "qqqqqqqqqqqqqqqqqqqqqqqqqqqqqqqqq" ++ "tzzsrf") = .failLeftover) ∧
    (hasHrp .mainnet ("bc1q" ++ "qqqqqqqqqqqqqqqqqqqqqqqqqqqqqqqqqqqqqqqqqqqqqqqqqqq" ++ "pkp59k4") ∧
      programOf ("bc1q" ++ "qqqqqqqqqqqqqqqqqqqqqqqqqqqqqqqqqqqqqqqqqqqqqqqqqqq" ++ "pkp59k4") = .failPadBits) := by
  refine ⟨by decide +kernel, ⟨by decide +kernel, by decide +kernel⟩, ⟨⟨by decide +kernel, by decide +kernel⟩, ?_⟩,
    ⟨⟨by decide +kernel, by decide +kernel⟩, by decide +kernel⟩, ⟨by decide +kernel, by decide +kernel⟩, by decide +kernel⟩
  decide +kernel

/-- The number of bytes of a regrouped program. -/
def programLength (text : String) : Option Nat :=
  match programOf text with
  | .values vs => some vs.length
  | .failRange => none
  | .failLeftover => none
  | .failPadBits => none

/-- SEGWIT-13 and -15 (1 and 41 bytes), SEGWIT-9 (version 17), SEGWIT-12 (version 0, 21 bytes), SEGWIT-8 (version 16, 2 bytes) and S4. -/
theorem witness_SegwitExtendsB32dec_programs :
    (hasHrp .mainnet "bc1pqy9hnxts" ∧ programLength "bc1pqy9hnxts" = some 1) ∧
    (hasHrp .mainnet ("bc1p" ++ "qqqqqqqqqqqqqqqqqqqqqqqqqqqqqqqqqqqqqqqqqqqqqqqqqqqqqqqqqqqqqqqqqq" ++ "vaggp2") ∧
      programLength ("bc1p" ++ "qqqqqqqqqqqqqqqqqqqqqqqqqqqqqqqqqqqqqqqqqqqqqqqqqqqqqqqqqqqqqqqqqq" ++ "vaggp2") = some 41) ∧
    (hasHrp .mainnet "bc13w508d6qejxtdg4y5r3zarvary0c5xw7kn40wf2" ∧
      programLength "bc13w508d6qejxtdg4y5r3zarvary0c5xw7kn40wf2" = some 20 ∧
      (b32Of "bc13w508d6qejxtdg4y5r3zarvary0c5xw7kn40wf2").sym[0] = 17) ∧
    (hasHrp .mainnet "bc1qw508d6qejxtdg4y5r3zarvary0c5xw7kqq7e2cw9" ∧
      programLength "bc1qw508d6qejxtdg4y5r3zarvary0c5xw7kqq7e2cw9" = some 21 ∧
      (b32Of "bc1qw508d6qejxtdg4y5r3zarvary0c5xw7kqq7e2cw9").sym[0] = 0) ∧
    (hasHrp .mainnet "bc1sqypqyquhk7" ∧ programLength "bc1sqypqyquhk7" = some 2 ∧ (b32Of "bc1sqypqyquhk7").sym[0] = 16) ∧
    (hasHrp .mainnet s4 ∧ programLength s4 = some 20 ∧ (b32Of s4).sym[0] = 0) := by
  unfold hasHrp
  decide +kernel

theorem witness_AcceptedSegwitShape :
    exec (.segwit .mainnet) (withText s4) = .next (segwitDone Config.params .mainnet (withText s4)) ∧
    (segwitDone Config.params .mainnet (withText s4)).result = true :=
  ⟨rfl, by decide +kernel⟩

theorem witness_ValidateTakesOnePath :
    (startsWithHrp .mainnet (withText s4) ∧
      exec (.segwit .mainnet) (withText s4) = .next (completed (.segwit .mainnet) (withText s4))) ∧
    (¬ startsWithHrp .mainnet (withText s1) ∧
      exec (.b58chk .mainnet) (withText s1) = .next (completed (.b58chk .mainnet) (withText s1))) :=
  ⟨⟨⟨by decide +kernel, by decide +kernel⟩, rfl⟩, by unfold startsWithHrp; decide +kernel, rfl⟩

theorem witness_ValidationMeetsTheSource :
    exec (.b58chk .mainnet) (withText s1) = .next (completed (.b58chk .mainnet) (withText s1)) ∧
    exec (.segwit .mainnet) (withText s4) = .next (completed (.segwit .mainnet) (withText s4)) ∧
    exec (.validate .mainnet) (withText s4) = .next (completed (.validate .mainnet) (withText s4)) :=
  ⟨rfl, rfl, rfl⟩

/-- The source's `decode_segwit` accepts S4: the predicate is not empty. -/
theorem test_source_accepts_s4 : sourceSegwit .mainnet 42 (ascii s4) :=
  ⟨0, (s4Symbols.take 33).drop 1, s4Program.map BitVec.toNat,
    ⟨by decide, by decide +kernel, by decide +kernel,
      [0x42, 0x43], (ascii s4).drop 3, s4Symbols.drop 33, by decide +kernel, by decide +kernel, by decide, by decide +kernel,
      by decide +kernel, by decide +kernel, by decide +kernel⟩,
    by decide +kernel, by decide, by decide, by decide, fun _ => .inl (by decide)⟩

end Sys2Proof.Tests
end

/-! PROOFS, family 00_scope: the outcome every completion reports (R272), the parameters that no validation depends on (R7), and the
accepting run of B32DEC (R197). The facts about the model come first, in the order of its files; the three statements stand at the end. -/

namespace Sys2Proof.Machine

/-! ### The outcome of a completion -/

theorem reasonCode_eq_zero {c : Reason} : reasonCode c = 0x00 ↔ c = .ok := by
  cases c <;> decide

/-- With two characters in the string, the dispatch looks at the first two elements of IN_BUF (R43, R250). -/
theorem text_take_two {s : State} (h : 2 ≤ s.inLen.toNat) : s.text.take 2 = [s.inBuf[0], s.inBuf[1]] := by
  apply List.ext_getElem
  · simp [State.text, h]
  · intro i h₁ h₂
    have hi : i < 2 := h₂
    interval_cases i <;> simp [State.text]

theorem takesBech32_iff (n : Network) (s : State) : takesBech32 n s.inLen.toNat s.text = true ↔ startsWithHrp n s := by
  unfold takesBech32 startsWithHrp
  by_cases h : 2 ≤ s.inLen.toNat
  · cases n <;> simp [h, text_take_two h, hrpBytes]
  · simp [h]

/-- PATH after a completion (R37, R252). -/
theorem completed_path (i : Instr) (s : State) :
    (completed i s).path = true ↔ ∃ n, i = .validate n ∧ startsWithHrp n s := by
  cases i with
  | hrpx => by_cases h : 90 < s.inLen.toNat <;> simp [completed, hrpxDone, h]
  | validate n =>
    simp only [Instr.validate.injEq, exists_eq_left', ← takesBech32_iff]
    by_cases h : takesBech32 n s.inLen.toNat s.text = true <;> simp [completed, validateDone, h]
  | _ => simp [completed, b58decDone, b58chkDone, polyDone, b32decDone, regrpDone, segwitDone]

/-- RESULT and REASON agree after a completion (R14, R36). -/
theorem completed_result (i : Instr) (s : State) : (completed i s).result = true ↔ (completed i s).reason = .ok := by
  obtain ⟨u, p, c, h, -⟩ := completed_shape i s
  simp [h]

/-- BUSY and DONE after a completion (R272). -/
theorem completed_busy_done (i : Instr) (s : State) : (completed i s).busy = false ∧ (completed i s).done = true := by
  obtain ⟨u, p, c, h, -⟩ := completed_shape i s
  simp [h]

/-! ### B58_ZERO_DIGIT -/

/-- Only a string of '1' characters leaves the accumulator at 0 without an overflow (R142, R143). -/
theorem scan58_zero {l : List Byte} {i : Nat} {acc : BitVec 200} {ovf : Bool} (h : scan58 l i acc ovf = .decoded 0 false) :
    acc = 0 ∧ ovf = false ∧ ∀ c ∈ l, c = 0x31 := by
  induction l generalizing i acc ovf with
  | nil =>
    obtain ⟨hacc, hovf⟩ := Scan58.decoded.inj h
    exact ⟨hacc, hovf, by simp⟩
  | cons c cs ih =>
    unfold scan58 at h
    cases hd : digit58 c with
    | none => simp [hd] at h
    | some d =>
      simp only [hd] at h
      obtain ⟨hacc, hovf, hcs⟩ := ih h
      simp only [Bool.or_eq_false_iff, decide_eq_false_iff_not, Nat.not_le] at hovf
      obtain ⟨hovf, hlt⟩ := hovf
      have hsum : acc.toNat * 58 + d = 0 := by
        have := congrArg BitVec.toNat hacc
        rwa [BitVec.toNat_ofNat, Nat.mod_eq_of_lt hlt] at this
      obtain ⟨hacc0, rfl⟩ : acc.toNat = 0 ∧ d = 0 := by omega
      exact ⟨BitVec.eq_of_toNat_eq hacc0, hovf, List.forall_mem_cons.2 ⟨(alpha58_digit58 hd).symm, hcs⟩⟩

theorem leadOnes_of_all_ones {l : List Byte} (h : ∀ c ∈ l, c = 0x31) : leadOnes l = l.length := by
  rw [leadOnes, leadingCount, List.takeWhile_eq_self_iff.2 fun c hc => by simp [h c hc]]

theorem zeroBytes_payloadOf_zero : zeroBytes (payloadOf 0) = 25 := by decide +kernel

/-- A string of more than 26 '1' characters is canonical under neither value of the parameter (R150). -/
theorem canon_zero_eq_false {L : Nat} (hL : 27 ≤ L) (zd : ZeroDigit) : canon zd L 0 false 25 L = false := by
  have h26 : L ≠ 26 := by omega
  have h25 : L ≠ 25 := by omega
  cases zd <;> simp [canon, h26, h25]

/-- On a string of at least 27 characters the parameter does not show in CANON: it is read only when the accumulator ends at 0, and then
the string is all '1' characters (R150, R247). -/
theorem canon_zeroDigit {L : Nat} {text : List Byte} {acc : BitVec 200} {ovf : Bool} (hL : 27 ≤ L) (hlen : text.length = L)
    (h : scan58 text 0 0 false = .decoded acc ovf) (zd zd' : ZeroDigit) :
    canon zd L acc ovf (zeroBytes (payloadOf acc)) (leadOnes text) =
      canon zd' L acc ovf (zeroBytes (payloadOf acc)) (leadOnes text) := by
  by_cases hzero : ovf = false ∧ acc = 0
  · obtain ⟨rfl, rfl⟩ := hzero
    have hones : leadOnes text = L := (leadOnes_of_all_ones (scan58_zero h).2.2).trans hlen
    rw [zeroBytes_payloadOf_zero, hones, canon_zero_eq_false hL, canon_zero_eq_false hL]
  · cases ovf with
    | true => rfl
    | false =>
      have hacc : acc ≠ 0 := fun h0 => hzero ⟨rfl, h0⟩
      simp only [canon, hacc, false_and, if_false]

theorem decodeSteps58_zeroDigit {L : Nat} {text : List Byte} (hL : 27 ≤ L) (hlen : text.length = L) (zd zd' : ZeroDigit) :
    decodeSteps58 zd L text = decodeSteps58 zd' L text := by
  unfold decodeSteps58
  cases h : scan58 text 0 0 false with
  | invalid pos => rfl
  | decoded acc ovf => simp only [infoDecoded, canon_zeroDigit hL hlen h zd zd']

/-- B58CHK reads the string only when its length is 27 to 35, where the parameter does not show (R244, R247). -/
theorem b58chkOf_zeroDigit (p : Params) (zd : ZeroDigit) (n : Network) {L : Nat} {text : List Byte}
    (hlen : L ≤ 90 → text.length = L) : b58chkOf { p with zeroDigit := zd } n L text = b58chkOf p n L text := by
  unfold b58chkOf
  by_cases hL : L < 27 ∨ 35 < L
  · rw [if_pos hL, if_pos hL]
  · rw [if_neg hL, if_neg hL, decodeSteps58_zeroDigit (by omega) (hlen (by omega)) zd p.zeroDigit]

theorem b58chkDone_zeroDigit (p : Params) (zd : ZeroDigit) (n : Network) (s : State) :
    b58chkDone { p with zeroDigit := zd } n s = b58chkDone p n s := by
  simp only [b58chkDone, b58chkOf_zeroDigit p zd n text_length_of_le]

theorem validateDone_zeroDigit (p : Params) (zd : ZeroDigit) (n : Network) (s : State) :
    validateDone { p with zeroDigit := zd } n s = validateDone p n s := by
  simp only [validateDone, b58chkOf_zeroDigit p zd n text_length_of_le]

/-! ### B32_EMPTY_HRP_OK -/

theorem checksumSteps_hrp_nil (info : B32Info) (data : List Byte) : (checksumSteps info [] data).hrp = [] := by
  unfold checksumSteps
  dsimp only
  split <;> rfl

/-- No HRP is left where the separator is the first character, whichever check the string fails (R193). -/
theorem separatedSteps_zero_hrp (ok : Bool) (L : Nat) (lc : List Byte) : (separatedSteps ok L lc 0).hrp = [] := by
  unfold separatedSteps
  dsimp only
  split
  · rfl
  split
  · rfl
  split
  · rfl
  · exact checksumSteps_hrp_nil _ _

/-- The parameter shows only where the separator is the first character (R196). -/
theorem separatedSteps_emptyOk (ok ok' : Bool) (L : Nat) (lc : List Byte) (pos : Nat) :
    separatedSteps ok L lc pos = separatedSteps ok' L lc pos ∨ ∀ o, (separatedSteps o L lc pos).hrp = [] := by
  by_cases hpos : pos = 0
  · exact .inr fun o => hpos ▸ separatedSteps_zero_hrp o L lc
  · exact .inl (by simp [separatedSteps, hpos])

theorem decode32_emptyOk (ok ok' : Bool) (L : Nat) (text : List Byte) :
    decode32 ok L text = decode32 ok' L text ∨ ∀ o, (decode32 o L text).hrp = [] := by
  unfold decode32
  split
  · exact .inl rfl
  split
  · exact .inl rfl
  split
  · exact .inl rfl
  split
  · exact .inl rfl
  · exact separatedSteps_emptyOk ok ok' L _ _

/-- A decode that leaves no HRP fails the network check, if it has not failed before (R222, R240). -/
theorem segwitOf_of_hrp_nil {ok : Bool} {L : Nat} {text : List Byte} (h : (decode32 ok L text).hrp = []) (n : Network) :
    (segwitOf ok n L text).reason ≠ .ok := by
  have hne : [] ≠ hrpBytes n := by cases n <;> decide
  by_cases hr : (decode32 ok L text).reason = .ok
  · simp [segwitOf, hr, h, hne]
  · simp [segwitOf, hr]

/-- Whether SEGWIT accepts does not depend on the parameter (R196). -/
theorem segwitOf_ok_emptyOk (ok ok' : Bool) (n : Network) (L : Nat) (text : List Byte) :
    (segwitOf ok n L text).reason = .ok ↔ (segwitOf ok' n L text).reason = .ok := by
  rcases decode32_emptyOk ok ok' L text with h | h
  · simp only [segwitOf, h]
  · exact iff_of_false (segwitOf_of_hrp_nil (h ok) n) (segwitOf_of_hrp_nil (h ok') n)

theorem segwitDone_result_emptyOk (p : Params) (ok : Bool) (n : Network) (s : State) :
    (segwitDone { p with emptyHrpOk := ok } n s).result = (segwitDone p n s).result :=
  decide_eq_decide.2 (segwitOf_ok_emptyOk ok p.emptyHrpOk n _ _)

theorem validateDone_result_emptyOk (p : Params) (ok : Bool) (n : Network) (s : State) :
    (validateDone { p with emptyHrpOk := ok } n s).result = (validateDone p n s).result := by
  unfold validateDone
  by_cases h : takesBech32 n s.inLen.toNat s.text = true
  · rw [if_pos h, if_pos h]
    exact decide_eq_decide.2 (segwitOf_ok_emptyOk ok p.emptyHrpOk n _ _)
  · rw [if_neg h, if_neg h]
    rfl

/-! ### The steps of B32DEC -/

theorem isUpper_iff (c : Byte) : isUpper c = true ↔ 0x41 ≤ c.toNat ∧ c.toNat ≤ 0x5A := by
  simp [isUpper]

theorem isLower_iff (c : Byte) : isLower c = true ↔ 0x61 ≤ c.toNat ∧ c.toNat ≤ 0x7A := by
  simp [isLower]

/-- Folding on the code points (R15). -/
theorem fold_toNat (c : Byte) : (fold c).toNat = if 0x41 ≤ c.toNat ∧ c.toNat ≤ 0x5A then c.toNat + 0x20 else c.toNat := by
  unfold fold
  by_cases h : 0x41 ≤ c.toNat ∧ c.toNat ≤ 0x5A
  · rw [if_pos ((isUpper_iff c).2 h), if_pos h, BitVec.toNat_add]
    exact Nat.mod_eq_of_lt (by simp; omega)
  · rw [if_neg (mt (isUpper_iff c).1 h), if_neg h]

theorem charset32_nodup : charset32.Nodup := by decide +kernel

/-- A character's value is its index in the charset (R170). -/
theorem charset5_eq_some {c : Byte} {d : Nat} : charset5 c = some d ↔ charset32[d]? = some c := by
  unfold charset5 List.idxOf?
  rw [List.findIdx?_eq_some_iff_getElem, List.getElem?_eq_some_iff]
  constructor
  · rintro ⟨hd, hc, -⟩
    exact ⟨hd, by simpa using hc⟩
  · rintro ⟨hd, rfl⟩
    refine ⟨hd, by simp, fun j hj heq => ?_⟩
    exact hj.ne (charset32_nodup.getElem_inj_iff.1 (by simpa using heq))

/-- The numbers the checksum runs over (R174, R175). -/
theorem naturals_hrpExpand_append (h data : List Byte) :
    naturals (hrpExpand h ++ data) =
      (h.map fun c => c.toNat / 32) ++ [0] ++ (h.map fun c => c.toNat % 32) ++ data.map BitVec.toNat := by
  have hhigh (c : Byte) : (c >>> (5 : Nat)).toNat = c.toNat / 32 := by
    simp [Nat.shiftRight_eq_div_pow]
  have hlow (c : Byte) : (c &&& 31).toNat = c.toNat % 32 := by
    rw [BitVec.toNat_and]
    exact Nat.and_two_pow_sub_one_eq_mod c.toNat 5
  simp only [naturals, hrpExpand, List.map_append, List.map_map, Function.comp_def, hhigh, hlow]
  rfl

theorem verifyChecksum_iff (h data : List Byte) : verifyChecksum h data = true ↔ polymod (naturals (hrpExpand h ++ data)) = 1 :=
  beq_iff_eq

theorem any_outside32_eq_false {l : List Byte} : l.any outside32 = false ↔ ∀ c ∈ l, 0x21 ≤ c.toNat ∧ c.toNat ≤ 0x7E := by
  simp [outside32]

theorem mixedCase_eq_true {l : List Byte} :
    mixedCase l = true ↔ (∃ c ∈ l, isUpper c = true) ∧ (∃ c ∈ l, isLower c = true) := by
  simp [mixedCase]

/-- The symbols of a data part are the list whose values are those of its characters: the converse of `symbolsOf_some` (R195). -/
theorem symbolsOf_eq_some {l vs : List Byte} (h : l.map charset5 = vs.map fun v => some v.toNat) : symbolsOf l = some vs := by
  cases hs : symbolsOf l with
  | none =>
    obtain ⟨c, hc, hnone⟩ := symbolsOf_eq_none.1 hs
    have : none ∈ vs.map fun v => some v.toNat := h ▸ hnone ▸ List.mem_map_of_mem hc
    simp at this
  | some ws =>
    have hinj : Function.Injective fun v : Byte => some v.toNat :=
      (Option.some_injective _).comp fun _ _ => BitVec.eq_of_toNat_eq
    rw [hinj.list_map ((symbolsOf_some hs).2.2.symm.trans h)]

theorem length_of_map_charset5 {dat syms : List Byte}
    (h : (dat.map fun c => charset5 (fold c)) = syms.map fun v => some v.toNat) : syms.length = dat.length := by
  simpa using (congrArg List.length h).symm

/-- The last '1' of a string stands at the same place in the folded string (R192). -/
theorem lastOne_map_fold {hrp dat : List Byte} (h : 0x31 ∉ dat) :
    lastOne ((hrp ++ 0x31 :: dat).map fold) = some hrp.length := by
  have hdat : 0x31 ∉ dat.map fold := fun hm => by
    obtain ⟨c, hc, heq⟩ := List.mem_map.1 hm
    exact h ((fold_eq_one c).1 heq ▸ hc)
  rw [List.map_append, List.map_cons, (fold_eq_one 0x31).2 rfl, lastOne_split _ _ (lastOne_eq_none hdat), List.length_map]

/-- A string that passes the checks on length, range and case is cut at its last '1' (R190 to R192). -/
theorem decode32_separated {ok : Bool} {L : Nat} {hrp dat : List Byte} (hL : L ≤ 90) (hdat : 0x31 ∉ dat)
    (hrange : (hrp ++ 0x31 :: dat).any outside32 = false) (hcase : mixedCase (hrp ++ 0x31 :: dat) = false) :
    decode32 ok L (hrp ++ 0x31 :: dat) = separatedSteps ok L ((hrp ++ 0x31 :: dat).map fold) hrp.length := by
  unfold decode32
  rw [if_neg (Nat.not_lt.2 hL), if_neg (Bool.eq_false_iff.1 hrange), if_neg (Bool.eq_false_iff.1 hcase), lastOne_map_fold hdat]

/-- The steps after the separator reach the checksum when the HRP is allowed, the data part is long enough and each of its characters has
a value (R193 to R195). -/
theorem separatedSteps_checksum {ok : Bool} {L : Nat} {hrp dat syms : List Byte} (hL : L = hrp.length + 1 + dat.length)
    (hhrp : hrp ≠ [] ∨ ok = true) (hlen : 6 ≤ dat.length)
    (hsyms : (dat.map fun c => charset5 (fold c)) = syms.map fun v => some v.toNat) :
    separatedSteps ok L ((hrp ++ 0x31 :: dat).map fold) hrp.length =
      checksumSteps (infoFound hrp.length dat.length) (hrp.map fold) syms := by
  have hd : L - hrp.length - 1 = dat.length := by omega
  have hempty : ¬ (hrp.length = 0 ∧ ok = false) := by
    rintro ⟨hnil, rfl⟩
    exact hhrp.elim (· (List.length_eq_zero_iff.1 hnil)) Bool.false_ne_true
  have hdrop : ((hrp ++ 0x31 :: dat).map fold).drop (hrp.length + 1) = dat.map fold := by
    simp [List.drop_append]
  have htake : ((hrp ++ 0x31 :: dat).map fold).take hrp.length = hrp.map fold := by
    simp
  have hsymbols : symbolsOf (dat.map fold) = some syms := symbolsOf_eq_some (by rw [List.map_map]; exact hsyms)
  unfold separatedSteps
  simp only [hd, if_neg hempty, if_neg (Nat.not_lt.2 hlen), hdrop, htake, hsymbols]

/-- The decode of a string that passes every check (R197, R198). -/
theorem decode32_accepts {ok : Bool} {text hrp dat syms : List Byte} (hL : text.length ≤ 90) (htext : text = hrp ++ 0x31 :: dat)
    (hdat : 0x31 ∉ dat) (hrange : text.any outside32 = false) (hcase : mixedCase text = false) (hhrp : hrp ≠ [] ∨ ok = true)
    (hsix : 6 ≤ dat.length) (hsyms : (dat.map fun c => charset5 (fold c)) = syms.map fun v => some v.toNat)
    (hsum : verifyChecksum (hrp.map fold) syms = true) :
    decode32 ok text.length text =
      { info := infoFound hrp.length dat.length, polyRes := 1, syms := syms.take (dat.length - 6), hrp := hrp.map fold,
        reason := .ok } := by
  subst htext
  have hlen : (hrp ++ 0x31 :: dat).length = hrp.length + 1 + dat.length := by
    simp [Nat.add_assoc, Nat.add_comm 1]
  rw [decode32_separated hL hdat hrange hcase, separatedSteps_checksum hlen hhrp hsix hsyms]
  simp [checksumSteps, (verifyChecksum_iff _ _).1 hsum, length_of_map_charset5 hsyms]

/-- The completion of B32DEC after a decode whose outcome is known (R197, R272). -/
theorem b32decDone_of_decode32 {p : Params} {s : State} {r : Decode32} (h : decode32 p.emptyHrpOk s.inLen.toNat s.text = r) :
    b32decDone p s =
      { s with
        symLen := BitVec.ofNat 8 r.syms.length, sym := fill 192 r.syms, polyRes := r.polyRes, b32Info := r.info
        result := decide (r.reason = .ok), path := false, reason := r.reason, busy := false, done := true } := by
  subst h
  rfl

/-! ### The statements -/

/-- Settles O30, from the one shape every completion has and the PATH each command writes. -/
theorem completionReportsTheOutcome : Obligations.CompletionReportsTheOutcome := by
  intro i s t h
  obtain ⟨-, rfl⟩ := exec_next h
  obtain ⟨hbusy, hdone⟩ := completed_busy_done i s
  exact ⟨hbusy, hdone, (completed_result i s).trans reasonCode_eq_zero.symm, completed_path i s⟩

/-- Settles O46: B58_ZERO_DIGIT shows only in strings of at most 26 characters, and B32_EMPTY_HRP_OK only in strings without an HRP, which
no network accepts. -/
theorem parametersNeverChangeValidation : Obligations.ParametersNeverChangeValidation := by
  intro p zd ok n s
  refine ⟨?_, ?_, ?_, segwitDone_result_emptyOk p ok n s, ?_⟩
  · rw [b58chkDone_zeroDigit]
  · rw [b58chkDone_zeroDigit]
  · rw [validateDone_zeroDigit]
  · calc (validateDone { p with zeroDigit := zd, emptyHrpOk := ok } n s).result
      _ = (validateDone { p with zeroDigit := zd } n s).result := validateDone_result_emptyOk { p with zeroDigit := zd } ok n s
      _ = (validateDone p n s).result := by rw [validateDone_zeroDigit]

/-- Settles O50: the decode runs through every check to the checksum, and the outputs are those of its last step. -/
theorem b32decAccepts : Obligations.B32decAccepts := by
  refine ⟨fun c => ⟨isUpper_iff c, isLower_iff c, fold_toNat c⟩, fun c d => charset5_eq_some, fun h data => ?_,
    fun l i => fill_get 192 l i.val i.isLt, ?_⟩
  · rw [verifyChecksum_iff, naturals_hrpExpand_append]
  · intro s hrp dat syms hL htext hdat hrange hcase hhrp hsix hsyms hsum
    have hlen := text_length_of_le hL
    have hcount : (syms.take (dat.length - 6)).length = dat.length - 6 := by
      rw [List.length_take, length_of_map_charset5 hsyms, Nat.min_eq_left (Nat.sub_le _ _)]
    have hdecode := decode32_accepts (hlen ▸ hL) htext hdat (any_outside32_eq_false.2 hrange)
      (Bool.eq_false_iff.2 (mt mixedCase_eq_true.1 hcase)) hhrp hsix hsyms hsum
    rw [hlen] at hdecode
    rw [exec_eq_completed rfl]
    refine congrArg Host.Outcome.next ((b32decDone_of_decode32 (p := Config.params) hdecode).trans ?_)
    rw [hcount]
    rfl

end Sys2Proof.Machine

/-! PROOFS, family 10_state: the registers and the window (R30 to R56, R80 to R92), what a step does to the flags (R34 to R41), the inputs
and outputs of a command (R61), the base58 string and its canonical form (R140 to R150), POLY, and the invariant (R302). The facts come
first; the statements stand at the end. -/

namespace Sys2Proof.Machine

/-! ### The offset map -/

theorem elementAt_eq_some {n k : Nat} {mk : Fin n → Reg} {r : Reg} :
    elementAt n k mk = some r ↔ ∃ h : k < n, r = mk ⟨k, h⟩ := by
  unfold elementAt
  by_cases h : k < n <;> simp [h, eq_comm]

/-- An element of the buffer at word `base` has the offset of its word (R30). -/
theorem regOffset_of_elementAt {n base k : Nat} {mk : Fin n → Reg} {r : Reg} (hbase : base ≤ k)
    (hmk : ∀ i, regOffset (mk i) = 4 * base + 4 * i.val) (h : elementAt n (k - base) mk = some r) : regOffset r = 4 * k := by
  obtain ⟨hk, rfl⟩ := elementAt_eq_some.1 h
  rw [hmk]
  dsimp only
  omega

/-- A register found at word `k` has the offset `4 * k` (R30). -/
theorem regOffset_of_regAtWord {k : Nat} {r : Reg} (h : regAtWord k = some r) : regOffset r = 4 * k := by
  unfold regAtWord at h
  split at h
  · exact regOffset_of_elementAt ‹_› (fun _ => rfl) h
  split at h
  · exact regOffset_of_elementAt ‹_› (fun _ => rfl) h
  split at h
  · exact regOffset_of_elementAt ‹_› (fun _ => rfl) h
  split at h
  · exact regOffset_of_elementAt ‹_› (fun _ => rfl) h
  · have hk : k < 14 := (List.getElem?_eq_some_iff.1 h).1
    interval_cases k <;> (cases h; rfl)

/-- Every register is found at its own offset, which is aligned (R30, R82). -/
theorem regAtWord_regOffset (r : Reg) : ∃ k, regOffset r = 4 * k ∧ regAtWord k = some r := by
  cases r with
  | inBuf i =>
    refine ⟨256 + i.val, by simp only [regOffset]; omega, ?_⟩
    have := i.isLt
    simp [regAtWord, elementAt, show ¬ 1024 ≤ 256 + i.val by omega, show ¬ 768 ≤ 256 + i.val by omega,
      show ¬ 512 ≤ 256 + i.val by omega]
  | sym i =>
    refine ⟨512 + i.val, by simp only [regOffset]; omega, ?_⟩
    have := i.isLt
    simp [regAtWord, elementAt, show ¬ 1024 ≤ 512 + i.val by omega, show ¬ 768 ≤ 512 + i.val by omega]
  | payload i =>
    refine ⟨768 + i.val, by simp only [regOffset]; omega, ?_⟩
    have := i.isLt
    simp [regAtWord, elementAt, show ¬ 1024 ≤ 768 + i.val by omega]
  | out i => exact ⟨1024 + i.val, by simp only [regOffset]; omega, by simp [regAtWord, elementAt]⟩
  | id => exact ⟨0, rfl, rfl⟩
  | ctrl => exact ⟨1, rfl, rfl⟩
  | cmd => exact ⟨2, rfl, rfl⟩
  | status => exact ⟨3, rfl, rfl⟩
  | reason => exact ⟨4, rfl, rfl⟩
  | inLen => exact ⟨5, rfl, rfl⟩
  | symLen => exact ⟨6, rfl, rfl⟩
  | outLen => exact ⟨7, rfl, rfl⟩
  | polyRes => exact ⟨8, rfl, rfl⟩
  | b58Info => exact ⟨9, rfl, rfl⟩
  | b32Info => exact ⟨10, rfl, rfl⟩
  | wver => exact ⟨11, rfl, rfl⟩
  | chkCalc => exact ⟨12, rfl, rfl⟩
  | chkPay => exact ⟨13, rfl, rfl⟩

/-- An offset reaches a register exactly when it is the register's offset (R30, R56, R82). -/
theorem regAt_eq_some {off : Offset} {r : Reg} : regAt off = some r ↔ off.toNat = regOffset r := by
  unfold regAt
  constructor
  · intro h
    split at h
    · rw [regOffset_of_regAtWord h]
      omega
    · cases h
  · intro h
    obtain ⟨k, hk, hr⟩ := regAtWord_regOffset r
    have hoff : off.toNat = 4 * k := h.trans hk
    rw [if_pos (by omega), show off.toNat / 4 = k by omega, hr]

/-! ### The fields of the packed words -/

theorem fieldAt_getLsbD (k : Nat) {n : Nat} (v : BitVec n) (j : Nat) :
    (fieldAt k v).getLsbD j = (decide (j < 32) && decide (k ≤ j) && v.getLsbD (j - k)) := by
  by_cases hj : j < 32 <;> by_cases hk : k ≤ j <;> simp [fieldAt, hj, hk]

theorem flagAt_eq_fieldAt (k : Nat) (b : Bool) : flagAt k b = fieldAt k (BitVec.ofBool b) := rfl

theorem flagAt_getLsbD (k : Nat) (b : Bool) (j : Nat) : (flagAt k b).getLsbD j = (decide (j < 32) && decide (j = k) && b) := by
  rw [flagAt_eq_fieldAt, fieldAt_getLsbD]
  by_cases h : j = k
  · simp [h]
  · by_cases hle : k ≤ j
    · simp [h, show j - k ≠ 0 by omega]
    · simp [h, hle]

/-- A field is read back where it stands (R112). -/
theorem extractLsb'_fieldAt (k : Nat) {n : Nat} (v : BitVec n) (h : k + n ≤ 32) : (fieldAt k v).extractLsb' k n = v := by
  ext i hi
  simp [← BitVec.getLsbD_eq_getElem, fieldAt_getLsbD, show k + i < 32 by omega, hi]

/-- A field shows in no place beside its own. -/
theorem extractLsb'_fieldAt_of_disjoint (k : Nat) {n : Nat} (v : BitVec n) {j m : Nat} (h : j + m ≤ k ∨ k + n ≤ j) :
    (fieldAt k v).extractLsb' j m = 0 := by
  ext i hi
  rw [← BitVec.getLsbD_eq_getElem, BitVec.getLsbD_extractLsb', fieldAt_getLsbD]
  rcases h with h | h
  · simp [show ¬ k ≤ j + i by omega]
  · simp [BitVec.getLsbD_of_ge v _ (show n ≤ j + i - k by omega)]

/-- The mask of the bits a field can set decides which masks it shows in. -/
theorem fieldAt_and_eq_zero {k n : Nat} (v : BitVec n) {m : Word} (h : fieldAt k (BitVec.allOnes n) &&& m = 0) :
    fieldAt k v &&& m = 0 := by
  have hv : fieldAt k v = fieldAt k v &&& fieldAt k (BitVec.allOnes n) := by
    apply BitVec.eq_of_getLsbD_eq
    intro j _
    rw [BitVec.getLsbD_and, fieldAt_getLsbD, fieldAt_getLsbD, BitVec.getLsbD_allOnes]
    by_cases hn : j - k < n
    · simp +contextual [hn]
    · simp [BitVec.getLsbD_of_ge v _ (Nat.not_lt.1 hn)]
  calc fieldAt k v &&& m
    _ = fieldAt k v &&& (fieldAt k (BitVec.allOnes n) &&& m) := by rw [← BitVec.and_assoc, ← hv]
    _ = 0 := by rw [h]; exact BitVec.and_zero

theorem or_and_eq_zero {a b m : Word} (ha : a &&& m = 0) (hb : b &&& m = 0) : (a ||| b) &&& m = 0 := by
  have hdistrib : (a ||| b) &&& m = (a &&& m) ||| (b &&& m) := by
    ext j hj
    simp [Bool.and_or_distrib_right]
  rw [hdistrib, ha, hb]
  rfl

theorem fieldAt_zero {n : Nat} (v : BitVec n) : fieldAt 0 v = v.zeroExtend 32 := BitVec.shiftLeft_zero _

theorem statusWord_getLsbD (s : State) (k : Nat) : s.statusWord.getLsbD k =
    (decide (k = 0) && s.busy || decide (k = 1) && s.done || decide (k = 2) && s.result || decide (k = 3) && s.path ||
      decide (k = 8) && s.illegal || decide (k = 9) && s.busyErr || decide (k = 10) && s.accErr) := by
  simp only [State.statusWord, BitVec.getLsbD_or, flagAt_getLsbD]
  by_cases hk : k < 32
  · simp [hk]
  · simp only [hk]
    grind

theorem statusWord_reserved (s : State) : s.statusWord &&& 0xFFFFF8F0 = 0 := by
  unfold State.statusWord
  simp only [flagAt_eq_fieldAt]
  repeat' with_reducible apply or_and_eq_zero
  all_goals exact fieldAt_and_eq_zero _ (by decide)

theorem b58InfoWord_reserved (x : B58Info) : b58InfoWord x &&& 0x8080E0F0 = 0 := by
  unfold b58InfoWord
  simp only [flagAt_eq_fieldAt]
  repeat' with_reducible apply or_and_eq_zero
  all_goals exact fieldAt_and_eq_zero _ (by decide)

theorem b32InfoWord_reserved (x : B32Info) : b32InfoWord x &&& 0xFFFF0080 = 0 := by
  unfold b32InfoWord
  simp only [flagAt_eq_fieldAt]
  repeat' with_reducible apply or_and_eq_zero
  all_goals exact fieldAt_and_eq_zero _ (by decide)

theorem wverWord_reserved (x : WVer) : wverWord x &&& 0xFFFFFEE0 = 0 :=
  or_and_eq_zero (fieldAt_and_eq_zero _ (by decide)) (fieldAt_and_eq_zero _ (by decide))

theorem b58InfoWord_fields (x : B58Info) :
    (b58InfoWord x).getLsbD 0 = x.invChar ∧ (b58InfoWord x).getLsbD 1 = x.ovf ∧ (b58InfoWord x).getLsbD 2 = x.canon ∧
    (b58InfoWord x).getLsbD 3 = x.dec ∧ (b58InfoWord x).extractLsb' 8 5 = x.zb ∧ (b58InfoWord x).extractLsb' 16 7 = x.lead1 ∧
    (b58InfoWord x).extractLsb' 24 7 = x.invPos := by
  unfold b58InfoWord
  refine ⟨?_, ?_, ?_, ?_, ?_, ?_, ?_⟩
  iterate 4 (simp only [BitVec.getLsbD_or, flagAt_getLsbD, fieldAt_getLsbD]; simp)
  all_goals
    simp [flagAt_eq_fieldAt, BitVec.extractLsb'_or, extractLsb'_fieldAt, extractLsb'_fieldAt_of_disjoint]

theorem b32InfoWord_fields (x : B32Info) :
    (b32InfoWord x).extractLsb' 0 7 = x.sepPos ∧ (b32InfoWord x).extractLsb' 8 7 = x.dataLen ∧ (b32InfoWord x).getLsbD 15 = x.sepV := by
  unfold b32InfoWord
  refine ⟨?_, ?_, ?_⟩
  iterate 2 simp [flagAt_eq_fieldAt, BitVec.extractLsb'_or, extractLsb'_fieldAt, extractLsb'_fieldAt_of_disjoint]
  simp only [BitVec.getLsbD_or, flagAt_getLsbD, fieldAt_getLsbD]
  simp

theorem wverWord_fields (x : WVer) : (wverWord x).extractLsb' 0 5 = x.ver ∧ (wverWord x).getLsbD 8 = x.wv := by
  unfold wverWord
  constructor
  · simp [flagAt_eq_fieldAt, BitVec.extractLsb'_or, extractLsb'_fieldAt, extractLsb'_fieldAt_of_disjoint]
  · simp only [BitVec.getLsbD_or, flagAt_getLsbD, fieldAt_getLsbD]
    simp

/-! ### Host accesses -/

/-- A write that passes every check of R89 has the effect of R86. -/
theorem hostWrite_store {off : Offset} {v : Word} {s : State} {r : Reg} (hr : regAt off = some r) (hro : readOnly r = false)
    (hlock : s.busy = false ∨ locks r = false) (hrange : outOfRange r v = false) : hostWrite off 0xF v s = storeReg v s r := by
  have hl : (s.busy && locks r) = false := by rcases hlock with h | h <;> simp [h]
  simp [hostWrite, hr, hro, hl, hrange]

/-- On an idle block a read returns the register's value (R85). -/
theorem hostRead_idle {off : Offset} {s : State} {r : Reg} (hr : regAt off = some r) (hb : s.busy = false) :
    (hostRead off s).1 = regValue s r := by
  simp [hostRead, hr, hb]

/-- A host write is an access error, a busy error, or the store of its register, each with the condition it stands under (R88, R89, R91). -/
theorem hostWrite_outcome (off : Offset) (strb : Strobe) (v : Word) (s : State) :
    (hostWrite off strb v s = s.accessError ∧
      (regAt off = none ∨ strb ≠ 0xF ∨ (∃ r, regAt off = some r ∧ readOnly r = true) ∨
        (regAt off = some .symLen ∧ s.busy = false ∧ 192 < v.toNat))) ∨
    (hostWrite off strb v s = s.busyError ∧ strb = 0xF ∧ s.busy = true ∧ ∃ r, regAt off = some r ∧ locks r = true) ∨
    ∃ r, hostWrite off strb v s = storeReg v s r ∧ strb = 0xF ∧ regAt off = some r ∧ readOnly r = false ∧
      (s.busy = true → locks r = false) := by
  unfold hostWrite
  cases hr : regAt off with
  | none => exact .inl ⟨rfl, .inl rfl⟩
  | some r =>
    dsimp only
    split
    · rename_i hstrb
      exact .inl ⟨rfl, .inr (.inl hstrb)⟩
    rename_i hstrb
    replace hstrb : strb = 0xF := not_not.1 hstrb
    split
    · rename_i hro
      exact .inl ⟨rfl, .inr (.inr (.inl ⟨r, rfl, hro⟩))⟩
    rename_i hro
    split
    · rename_i hlock
      obtain ⟨hb, hl⟩ := Bool.and_eq_true_iff.1 hlock
      exact .inr (.inl ⟨rfl, hstrb, hb, r, rfl, hl⟩)
    rename_i hlock
    split
    · rename_i hrange
      obtain ⟨rfl, hv⟩ : r = .symLen ∧ 192 < v.toNat := by simpa [outOfRange] using hrange
      exact .inl ⟨rfl, .inr (.inr (.inr ⟨rfl, by simpa [locks] using hlock, hv⟩))⟩
    · exact .inr (.inr ⟨r, rfl, hstrb, rfl, by simpa using hro, by simpa using hlock⟩)

theorem hostWrite_ctrl (v : Word) (s : State) : hostWrite 0x004 0xF v s = { s with irqEn := v.getLsbD 0 } :=
  hostWrite_store regAt_ctrl rfl (.inr rfl) rfl

theorem hostWrite_status (v : Word) (s : State) : hostWrite 0x00C 0xF v s = s.acknowledge v :=
  hostWrite_store regAt_status rfl (.inr rfl) rfl

section idle

variable {s : State} (hb : s.busy = false) (v : Word)
include hb

theorem hostWrite_cmd : hostWrite 0x008 0xF v s = s.writeCmd v := hostWrite_store regAt_cmd rfl (.inl hb) rfl

theorem hostWrite_inLen : hostWrite 0x014 0xF v s = { s with inLen := v } := hostWrite_store regAt_inLen rfl (.inl hb) rfl

theorem hostWrite_symLen (hv : v.toNat ≤ 192) : hostWrite 0x018 0xF v s = { s with symLen := v.extractLsb' 0 8 } :=
  hostWrite_store regAt_symLen rfl (.inl hb) (by simpa [outOfRange] using hv)

theorem hostWrite_symLen_outOfRange (hv : 192 < v.toNat) : hostWrite 0x018 0xF v s = s.accessError := by
  simp only [hostWrite, regAt_symLen]
  simp [readOnly, hb, outOfRange, hv]

theorem hostWrite_inBuf {off : Offset} {i : Fin 90} (h : regAt off = some (.inBuf i)) :
    hostWrite off 0xF v s = { s with inBuf := s.inBuf.set i (v.extractLsb' 0 8) } :=
  hostWrite_store h rfl (.inl hb) rfl

theorem hostWrite_sym {off : Offset} {i : Fin 192} (h : regAt off = some (.sym i)) :
    hostWrite off 0xF v s = { s with sym := s.sym.set i (v.extractLsb' 0 8) } :=
  hostWrite_store h rfl (.inl hb) rfl

end idle

/-- Only a CMD write can change BUSY (R34, R86). -/
theorem storeReg_busy (v : Word) (s : State) {r : Reg} (h : r ≠ .cmd) : (storeReg v s r).busy = s.busy := by
  cases r with
  | cmd => exact absurd rfl h
  | _ => rfl

/-- What is read back on an idle block is the register as the write stored it. -/
theorem hostRead_hostWrite {off : Offset} {v : Word} {s : State} {r : Reg} (hb : s.busy = false) (hr : regAt off = some r)
    (hcmd : r ≠ .cmd) (hro : readOnly r = false) (hrange : outOfRange r v = false) :
    (hostRead off (hostWrite off 0xF v s)).1 = regValue (storeReg v s r) r := by
  rw [hostWrite_store hr hro (.inl hb) hrange, hostRead_idle hr ((storeReg_busy v s hcmd).trans hb)]

/-- A word cut to its low bits and read back is the word under the mask of those bits. -/
theorem fieldAt_zero_extractLsb' (v : Word) (n : Nat) : fieldAt 0 (v.extractLsb' 0 n) = v &&& fieldAt 0 (BitVec.allOnes n) := by
  apply BitVec.eq_of_getLsbD_eq
  intro j _
  simp only [BitVec.getLsbD_and, fieldAt_getLsbD, BitVec.getLsbD_extractLsb', BitVec.getLsbD_allOnes, Nat.sub_zero, Nat.zero_add]
  grind

theorem flagAt_zero_getLsbD (v : Word) : flagAt 0 (v.getLsbD 0) = v &&& 1 := by
  have hbit : BitVec.ofBool (v.getLsbD 0) = v.extractLsb' 0 1 := by
    ext i hi
    obtain rfl : i = 0 := by omega
    simp
  rw [flagAt_eq_fieldAt, hbit, fieldAt_zero_extractLsb']
  rfl

theorem fieldAt_zero_extractLsb'_of_lt {v : Word} {n : Nat} (hv : v.toNat < 2 ^ n) :
    fieldAt 0 (v.extractLsb' 0 n) = v := by
  apply BitVec.eq_of_toNat_eq
  rw [fieldAt_zero, BitVec.toNat_setWidth, BitVec.extractLsb'_toNat, Nat.shiftRight_zero, Nat.mod_eq_of_lt hv,
    Nat.mod_eq_of_lt v.isLt]

/-! ### What a step does to BUSY and to the misuse flags -/

theorem eq_of_regAt {off : Offset} {r : Reg} (h : regAt off = some r) : off = BitVec.ofNat 13 (regOffset r) := by
  rw [← regAt_eq_some.1 h, BitVec.ofNat_toNat, BitVec.setWidth_eq]

theorem State.writeCmd_of_legal {w : Word} (hw : legal w = true) (s : State) : s.writeCmd w = s.issue w := if_pos hw

theorem State.writeCmd_of_illegal {w : Word} (hw : legal w = false) (s : State) : s.writeCmd w = s.raiseIllegal w :=
  if_neg (Bool.eq_false_iff.1 hw)

/-- A CMD write of a legal word on an idle block issues it; every other access keeps BUSY (R34, R270). -/
theorem hostAccess_busy (a : Access) (s : State) : (hostAccess a s).busy = s.busy ∨
    ∃ w, a = .write 0x008 0xF w ∧ s.busy = false ∧ legal w = true ∧ hostAccess a s = s.issue w := by
  cases a with
  | read off =>
    refine .inl ?_
    obtain h | h | ⟨-, h⟩ := hostRead_state off s <;> simp [hostAccess, h]
  | write off strb v =>
    obtain ⟨h, -⟩ | ⟨h, -⟩ | ⟨r, h, rfl, hr, -, hlock⟩ := hostWrite_outcome off strb v s
    · exact .inl (by simp [hostAccess, h])
    · exact .inl (by simp [hostAccess, h])
    · by_cases hcmd : r = .cmd
      · subst hcmd
        obtain rfl : off = 0x008 := eq_of_regAt hr
        cases hw : legal v with
        | false => exact .inl (by rw [hostAccess, h, storeReg, State.writeCmd_of_illegal hw, State.raiseIllegal_busy])
        | true =>
          have hb : s.busy = false := Bool.eq_false_iff.2 fun hb => nomatch hlock hb
          exact .inr ⟨v, rfl, hb, hw, by rw [hostAccess, h, storeReg, State.writeCmd_of_legal hw]⟩
      · exact .inl (by rw [hostAccess, h, storeReg_busy v s hcmd])

/-- The misuse flags ILLEGAL, BUSYERR and ACCERR (R38 to R40). -/
def State.misuse (s : State) : Bool × Bool × Bool := (s.illegal, s.busyErr, s.accErr)

/-- An access that is an access error (R88). -/
def accessErrs (a : Access) (s : State) : Prop :=
  (∃ off, a = .read off ∧ regAt off = none) ∨
  (∃ off strb v, a = .write off strb v ∧
    (regAt off = none ∨ strb ≠ 0xF ∨ (∃ r, regAt off = some r ∧ readOnly r = true) ∨
      (regAt off = some .symLen ∧ s.busy = false ∧ 192 < v.toNat)))

theorem hostRead_misuse (off : Offset) (s : State) : (hostRead off s).2.misuse = s.misuse ∨
    (regAt off = none ∧ (hostRead off s).2.misuse = (s.illegal, s.busyErr, true)) := by
  cases hr : regAt off with
  | none => exact .inr ⟨rfl, by simp [hostRead, hr, State.misuse]⟩
  | some r =>
    refine .inl ?_
    unfold hostRead
    rw [hr]
    dsimp only
    split <;> rfl

/-- What an access does to the misuse flags: nothing, one flag set for its cause, or the acknowledge of R41. -/
theorem hostAccess_misuse (a : Access) (s : State) : (hostAccess a s).misuse = s.misuse ∨
    (accessErrs a s ∧ (hostAccess a s).misuse = (s.illegal, s.busyErr, true)) ∨
    ((∃ off v r, a = .write off 0xF v ∧ s.busy = true ∧ regAt off = some r ∧ locks r = true) ∧
      (hostAccess a s).misuse = (s.illegal, true, s.accErr)) ∨
    ((∃ w, a = .write 0x008 0xF w ∧ s.busy = false ∧ legal w = false) ∧ (hostAccess a s).misuse = (true, s.busyErr, s.accErr)) ∨
    ∃ v, a = .write 0x00C 0xF v ∧
      (hostAccess a s).misuse = (s.illegal && !v.getLsbD 8, s.busyErr && !v.getLsbD 9, s.accErr && !v.getLsbD 10) := by
  cases a with
  | read off =>
    obtain h | ⟨hr, h⟩ := hostRead_misuse off s
    · exact .inl h
    · exact .inr (.inl ⟨.inl ⟨off, rfl, hr⟩, h⟩)
  | write off strb v =>
    obtain ⟨h, herr⟩ | ⟨h, rfl, hb, r, hr, hl⟩ | ⟨r, h, rfl, hr, hro, hlock⟩ := hostWrite_outcome off strb v s
    · exact .inr (.inl ⟨.inr ⟨off, strb, v, rfl, herr⟩, congrArg State.misuse h⟩)
    · exact .inr (.inr (.inl ⟨⟨off, v, r, rfl, hb, hr, hl⟩, congrArg State.misuse h⟩))
    · rw [hostAccess, h, eq_of_regAt hr]
      cases r with
      | cmd =>
        cases hw : legal v with
        | true => exact .inl (by rw [storeReg, State.writeCmd_of_legal hw]; rfl)
        | false =>
          have hb : s.busy = false := Bool.eq_false_iff.2 fun hb => nomatch hlock hb
          exact .inr (.inr (.inr (.inl ⟨⟨v, rfl, hb, hw⟩, by rw [storeReg, State.writeCmd_of_illegal hw]; rfl⟩)))
      | status => exact .inr (.inr (.inr (.inr ⟨v, rfl, rfl⟩)))
      | _ => exact .inl rfl

/-- The engine's turn leaves the misuse flags (R272). -/
theorem engineTurn_misuse {s t : State} (h : engineTurn s = .next t) : t.misuse = s.misuse := by
  obtain ⟨-, rfl⟩ | ⟨-, i, -, -, rfl⟩ := engineTurn_next h
  · rfl
  · obtain ⟨u, p, c, hu, -, -, -, hillegal, hbusyErr, haccErr, -⟩ := completed_shape i s
    simp [hu, State.misuse, hillegal, hbusyErr, haccErr]

theorem hostReset_misuse_busy (as : List Access) (s : State) :
    (hostReset as s).misuse = (false, false, false) ∧ (hostReset as s).busy = false := by
  have hstart : s.resetBlock.misuse = (false, false, false) ∧ s.resetBlock.busy = false := ⟨rfl, rfl⟩
  refine List.foldlRecOn (motive := fun t => t.misuse = (false, false, false) ∧ t.busy = false) as accessInReset hstart fun t ht a _ => ?_
  unfold accessInReset
  cases a with
  | write => exact ht
  | read off =>
    dsimp only
    split <;> exact ht

/-! ### The string, the symbols and the base58 scan -/

theorem alphabet58_nodup : alphabet58.Nodup := by decide +kernel

/-- A digit's value is its character's index in the alphabet (R140). -/
theorem digit58_eq_some {c : Byte} {d : Nat} : digit58 c = some d ↔ alphabet58[d]? = some c := by
  unfold digit58 List.idxOf?
  rw [List.findIdx?_eq_some_iff_getElem, List.getElem?_eq_some_iff]
  constructor
  · rintro ⟨hd, hc, -⟩
    exact ⟨hd, by simpa using hc⟩
  · rintro ⟨hd, rfl⟩
    refine ⟨hd, by simp, fun j hj heq => ?_⟩
    exact hj.ne (alphabet58_nodup.getElem_inj_iff.1 (by simpa using heq))

theorem valid58_iff {text : List Byte} : valid58 text = true ↔ ∀ c ∈ text, digit58 c ≠ none := by
  simp [valid58, Option.isSome_iff_ne_none]

theorem valid58_cons {c : Byte} {l : List Byte} : valid58 (c :: l) = true ↔ (∃ d, digit58 c = some d) ∧ valid58 l = true := by
  simp [valid58, Option.isSome_iff_exists]

/-- The character `i` of the string is the element `i` of IN_BUF (R43). -/
theorem text_getElem? (s : State) {i : Fin 90} (h : i.val < s.inLen.toNat) : s.text[i.val]? = some s.inBuf[i] := by
  simp [State.text, h]

/-- The symbol `i` is the element `i` of SYM (R44). -/
theorem symbols_getElem? (s : State) {i : Fin 192} (h : i.val < s.symLen.toNat) : s.symbols[i.val]? = some s.sym[i] := by
  simp [State.symbols, h]

/-- The scan stops at the first character outside the alphabet, with its index (R142). -/
theorem scan58_invalid {before after : List Byte} {c : Byte} (hbefore : valid58 before = true) (hc : digit58 c = none) (i : Nat)
    (acc : BitVec 200) (ovf : Bool) : scan58 (before ++ c :: after) i acc ovf = .invalid (i + before.length) := by
  induction before generalizing i acc ovf with
  | nil => simp [scan58, hc]
  | cons b bs ih =>
    obtain ⟨⟨d, hd⟩, hbs⟩ := valid58_cons.1 hbefore
    rw [List.cons_append, scan58, hd]
    dsimp only
    rw [ih hbs, List.length_cons, Nat.add_assoc, Nat.add_comm 1]

theorem decodeSteps58_invalid {text before after : List Byte} {c : Byte} (zd : ZeroDigit) (L : Nat) (htext : text = before ++ c :: after)
    (hbefore : valid58 before = true) (hc : digit58 c = none) :
    decodeSteps58 zd L text = { cleared58 .b58Char with info := infoInvalid before.length } := by
  rw [decodeSteps58, htext, scan58_invalid hbefore hc, Nat.zero_add]

/-! ### The checksum -/

theorem polymod_concat (vs : List Nat) (v : Nat) : polymod (vs ++ [v]) = polymodStep (polymod vs) v := by
  simp [polymod]

/-- One step with its five generators written out (R171, R172). -/
theorem polymodStep_eq (chk v : Nat) : polymodStep chk v =
    (((chk &&& 0x1FFFFFF) <<< 5) ^^^ v) ^^^
    (if (chk >>> 25).testBit 0 then 0x3b6a57b2 else 0) ^^^ (if (chk >>> 25).testBit 1 then 0x26508e6d else 0) ^^^
    (if (chk >>> 25).testBit 2 then 0x1ea119fa else 0) ^^^ (if (chk >>> 25).testBit 3 then 0x3d4233dd else 0) ^^^
    (if (chk >>> 25).testBit 4 then 0x2a1462b3 else 0) := by
  have hxor (b : Bool) (x g : Nat) : (if b then x ^^^ g else x) = x ^^^ (if b then g else 0) := by cases b <;> simp
  simp only [polymodStep, xorGens, gen, hxor]

theorem xorGens_lt {gs : List Nat} (hgs : ∀ g ∈ gs, g < 2 ^ 30) (b i : Nat) {chk : Nat} (h : chk < 2 ^ 30) :
    xorGens b i gs chk < 2 ^ 30 := by
  induction gs generalizing i chk with
  | nil => exact h
  | cons g gs ih =>
    obtain ⟨hg, hgs⟩ := List.forall_mem_cons.1 hgs
    refine ih hgs (i + 1) ?_
    split
    · exact Nat.xor_lt_two_pow h hg
    · exact h

/-- A step leaves 30 bits, whatever the state before it (R173). -/
theorem polymodStep_lt (chk : Nat) {v : Nat} (hv : v < 2 ^ 30) : polymodStep chk v < 2 ^ 30 := by
  have hlow : (chk &&& 0x1FFFFFF) <<< 5 < 2 ^ 30 := by
    have : chk &&& 0x1FFFFFF ≤ 0x1FFFFFF := Nat.and_le_right
    rw [Nat.shiftLeft_eq]
    omega
  exact xorGens_lt (by decide) _ _ (Nat.xor_lt_two_pow hlow hv)

theorem polymod_lt {vs : List Nat} (h : ∀ v ∈ vs, v < 2 ^ 30) : polymod vs < 2 ^ 30 :=
  List.foldlRecOn (motive := fun chk => chk < 2 ^ 30) vs polymodStep (by decide) fun chk _ v hv => polymodStep_lt chk (h v hv)

theorem polymod_naturals_lt (l : List Byte) : polymod (naturals l) < 2 ^ 30 := by
  refine polymod_lt fun v hv => ?_
  obtain ⟨b, -, rfl⟩ := List.mem_map.1 hv
  omega

/-! ### The value of a valid string -/

theorem valid58_append {l m : List Byte} : valid58 (l ++ m) = true ↔ valid58 l = true ∧ valid58 m = true := by
  simp [valid58]

/-- The recursion of the value from the front, with `n` the value of what stands before (R141). -/
theorem value58_foldl (l : List Byte) (n : Nat) :
    l.foldl (fun n c => n * 58 + (digit58 c).getD 0) n = n * 58 ^ l.length + value58 l := by
  induction l using List.reverseRecOn with
  | nil => simp
  | append_singleton l c ih =>
    rw [List.foldl_append, ih, value58_concat, List.length_append, List.length_singleton, pow_succ]
    simp only [List.foldl_cons, List.foldl_nil]
    ring

theorem value58_append (l m : List Byte) : value58 (l ++ m) = value58 l * 58 ^ m.length + value58 m := by
  rw [value58, List.foldl_append, value58_foldl]
  rfl

theorem value58_cons {c : Byte} {d : Nat} (h : digit58 c = some d) (l : List Byte) :
    value58 (c :: l) = d * 58 ^ l.length + value58 l := by
  have hfirst : value58 [c] = d := by simp [value58, h]
  rw [← List.singleton_append, value58_append, hfirst]

/-- The accumulator holds the value modulo 2^200, and the sticky flag whether it reached 2^200 (R143, R144). -/
theorem scan58_valid {l : List Byte} (h : valid58 l = true) (i n : Nat) :
    scan58 l i (BitVec.ofNat 200 n) (decide (2 ^ 200 ≤ n)) =
      .decoded (BitVec.ofNat 200 (n * 58 ^ l.length + value58 l)) (decide (2 ^ 200 ≤ n * 58 ^ l.length + value58 l)) := by
  induction l generalizing i n with
  | nil => simp [scan58]
  | cons c cs ih =>
    obtain ⟨⟨d, hd⟩, hcs⟩ := valid58_cons.1 h
    have hacc : BitVec.ofNat 200 ((BitVec.ofNat 200 n).toNat * 58 + d) = BitVec.ofNat 200 (n * 58 + d) := by
      apply BitVec.eq_of_toNat_eq
      rw [BitVec.toNat_ofNat, BitVec.toNat_ofNat, BitVec.toNat_ofNat]
      omega
    have hovf : (decide (2 ^ 200 ≤ n) || decide (2 ^ 200 ≤ (BitVec.ofNat 200 n).toNat * 58 + d)) = decide (2 ^ 200 ≤ n * 58 + d) := by
      rw [BitVec.toNat_ofNat, ← Bool.decide_or, decide_eq_decide]
      omega
    rw [scan58, hd]
    dsimp only
    rw [hacc, hovf, ih hcs, value58_cons hd, List.length_cons, pow_succ]
    ring_nf

theorem scan58_of_valid {text : List Byte} (h : valid58 text = true) :
    scan58 text 0 0 false = .decoded (BitVec.ofNat 200 (value58 text)) (decide (2 ^ 200 ≤ value58 text)) := by
  simpa using scan58_valid h 0 0

/-! ### The payload as a number -/

/-- The payload of the accumulator is the source's payload of the value (R145). -/
theorem payloadOf_value (text : List Byte) : payloadOf (BitVec.ofNat 200 (value58 text)) = refPayload text := by
  ext1 j hj
  simp only [payloadOf, refPayload, Vector.getElem_ofFn]
  apply BitVec.eq_of_getLsbD_eq
  intro b hb
  have hbit : 8 * (24 - j) + b < 200 := by omega
  have hpow : 256 ^ (24 - j) = 2 ^ (8 * (24 - j)) := Nat.pow_mul 2 8 _ ▸ rfl
  rw [BitVec.getLsbD_extractLsb', BitVec.getLsbD_ofNat, BitVec.getLsbD_ofNat, hpow, Nat.testBit_div_two_pow, Nat.add_comm b]
  simp [hbit]

theorem bytesValue_concat (l : List Byte) (x : Byte) : bytesValue (l ++ [x]) = bytesValue l * 256 + x.toNat := by
  simp [bytesValue]

/-- The big-endian bytes of a number are the number, cut to their width (R145, R147). -/
theorem bytesValue_ofFn (n m : Nat) :
    bytesValue (List.ofFn fun j : Fin n => BitVec.ofNat 8 (m / 256 ^ (n - 1 - j.val))) = m % 256 ^ n := by
  induction n generalizing m with
  | zero => simp [bytesValue, Nat.mod_one]
  | succ n ih =>
    have hshift : (fun j : Fin n => BitVec.ofNat 8 (m / 256 ^ (n + 1 - 1 - j.castSucc.val))) =
        fun j : Fin n => BitVec.ofNat 8 (m / 256 / 256 ^ (n - 1 - j.val)) := by
      funext j
      rw [Nat.div_div_eq_div_mul, ← Nat.pow_succ', Fin.val_castSucc, show n + 1 - 1 - j.val = (n - 1 - j.val).succ by omega]
    have hlast : (BitVec.ofNat 8 (m / 256 ^ (n + 1 - 1 - (Fin.last n).val))).toNat = m % 256 := by simp
    rw [List.ofFn_succ', List.concat_eq_append, bytesValue_concat, hshift, ih, hlast, Nat.pow_succ', Nat.mod_mul]
    omega

theorem bytesValue_refPayload (text : List Byte) : bytesValue (refPayload text).toList = value58 text % 2 ^ 200 := by
  rw [refPayload, Vector.toList_ofFn]
  exact bytesValue_ofFn 25 (value58 text)

/-! ### The reference encoder -/

/-- With fuel for the number, the digit loop writes the number before the digits it was given (R147). -/
theorem value58_digits58 {fuel m : Nat} (h : m < 58 ^ fuel) (ds : List Byte) :
    value58 (digits58 fuel m ds) = m * 58 ^ ds.length + value58 ds := by
  induction fuel generalizing m ds with
  | zero =>
    obtain rfl : m = 0 := by simpa using h
    simp [digits58]
  | succ k ih =>
    unfold digits58
    split
    · rename_i hm
      simp [hm]
    · have hdigit : digit58 (alpha58 (m % 58)) = some (m % 58) := digit58_alpha58 (Nat.mod_lt m (by decide))
      rw [ih (by rw [pow_succ] at h; omega), value58_cons hdigit, List.length_cons, pow_succ]
      conv_rhs => rw [← Nat.div_add_mod m 58]
      ring

/-- Only a string of '1' characters has the value 0 (R141). -/
theorem all_ones_of_value58_eq_zero {l : List Byte} (hvalid : valid58 l = true) (h : value58 l = 0) : ∀ c ∈ l, c = 0x31 := by
  have hscan := scan58_of_valid hvalid
  rw [h] at hscan
  exact (scan58_zero hscan).2.2

theorem value58_ne_zero {l : List Byte} (hvalid : valid58 l = true) (hne : l ≠ []) (hhead : l.head? ≠ some 0x31) : value58 l ≠ 0 := by
  intro h
  cases l with
  | nil => exact hne rfl
  | cons c cs => exact hhead (congrArg some (all_ones_of_value58_eq_zero hvalid h c List.mem_cons_self))

/-- The digit loop gives back a string without leading '1' from its value: base58 without leading zero digits is unique (R147). -/
theorem digits58_value58 {l : List Byte} (hvalid : valid58 l = true) (hhead : l.head? ≠ some 0x31) {fuel : Nat}
    (hfuel : value58 l < 58 ^ fuel) (ds : List Byte) : digits58 fuel (value58 l) ds = l ++ ds := by
  induction l using List.reverseRecOn generalizing fuel ds with
  | nil => cases fuel <;> simp [digits58]
  | append_singleton l c ih =>
    have hne := value58_ne_zero hvalid (by simp) hhead
    obtain ⟨hl, hc⟩ := valid58_append.1 hvalid
    obtain ⟨⟨d, hd⟩, -⟩ := valid58_cons.1 hc
    have hd58 := digit58_lt hd
    have hhead' : l.head? ≠ some 0x31 := by
      cases l with
      | nil => simp
      | cons b bs => exact hhead
    rw [value58_concat, hd, Option.getD_some] at hfuel hne ⊢
    cases fuel with
    | zero => exact absurd hfuel (by simpa using hne)
    | succ k =>
      have hdiv : (value58 l * 58 + d) / 58 = value58 l := by omega
      have hmod : (value58 l * 58 + d) % 58 = d := by omega
      rw [digits58, if_neg hne, hdiv, hmod, alpha58_digit58 hd, ih hl hhead' (by rw [Nat.pow_succ] at hfuel; omega),
        List.append_assoc, List.singleton_append]

/-! ### The round trip -/

theorem value58_replicate_one (n : Nat) : value58 (List.replicate n 0x31) = 0 := by
  induction n with
  | zero => rfl
  | succ n ih =>
    rw [List.replicate_succ', value58_concat, ih]
    decide

theorem value58_replicate_one_append (n : Nat) (l : List Byte) : value58 (List.replicate n 0x31 ++ l) = value58 l := by
  rw [value58_append, value58_replicate_one, Nat.zero_mul, Nat.zero_add]

/-- A string is its leading '1' characters and a rest that does not begin with one (R146). -/
theorem leadOnes_split (text : List Byte) :
    ∃ rest, text = List.replicate (leadOnes text) 0x31 ++ rest ∧ rest.head? ≠ some 0x31 := by
  refine ⟨text.dropWhile (· == 0x31), ?_, ?_⟩
  · have hones : text.takeWhile (· == 0x31) = List.replicate (leadOnes text) 0x31 :=
      List.eq_replicate_iff.2 ⟨rfl, fun c hc => by simpa using List.mem_takeWhile_imp hc⟩
    rw [← hones, List.takeWhile_append_dropWhile]
  · intro h
    have := List.head?_dropWhile_not (· == 0x31) text
    rw [h] at this
    simp at this

theorem base58Encode_of_zero (zd : ZeroDigit) {b : List Byte} (h : bytesValue b = 0) (hne : 0 < b.length) :
    base58Encode zd b = List.replicate (leadingCount 0x00 b + if zd = .one then 1 else 0) 0x31 := by
  have hdigits : digits58 (2 * b.length) 0 [] = [] := by cases 2 * b.length <;> rfl
  cases zd <;> simp [base58Encode, h, hne, hdigits, List.replicate_succ']

theorem base58Encode_of_ne_zero (zd : ZeroDigit) {b : List Byte} (h : bytesValue b ≠ 0) :
    base58Encode zd b = List.replicate (leadingCount 0x00 b) 0x31 ++ digits58 (2 * b.length) (bytesValue b) [] := by
  simp [base58Encode, h]

/-- The encoding of a byte sequence has its value (R147). -/
theorem value58_base58Encode (zd : ZeroDigit) {b : List Byte} (h : bytesValue b < 58 ^ (2 * b.length)) :
    value58 (base58Encode zd b) = bytesValue b := by
  unfold base58Encode
  dsimp only
  rw [value58_replicate_one_append]
  split
  · rename_i hzero
    rw [hzero.1]
    exact value58_replicate_one 1
  · simpa using value58_digits58 h []

/-- CANON is the round trip through the reference encoder, for every valid string (R147, R150). An overflowing string has another value
than its payload; a string of value 0 is compared by its length; any other string is its leading '1' characters and the one base58
numeral of its value. -/
theorem canon_eq_roundTrip (zd : ZeroDigit) {text : List Byte} (hvalid : valid58 text = true) :
    canon zd text.length (BitVec.ofNat 200 (value58 text)) (decide (2 ^ 200 ≤ value58 text)) (zeroBytes (refPayload text))
      (leadOnes text) = decide (base58Encode zd (refPayload text).toList = text) := by
  have hbytes := bytesValue_refPayload text
  have hlength : (refPayload text).toList.length = 25 := Vector.length_toList
  have hfuel : value58 text % 2 ^ 200 < 58 ^ 50 := (Nat.mod_lt _ (by decide)).trans (by decide)
  by_cases hovf : 2 ^ 200 ≤ value58 text
  · have hne : base58Encode zd (refPayload text).toList ≠ text := fun heq => by
      have hvalue := value58_base58Encode zd (b := (refPayload text).toList) (by rw [hbytes, hlength]; exact hfuel)
      rw [heq, hbytes] at hvalue
      omega
    rw [decide_eq_true hovf, decide_eq_false hne]
    rfl
  rw [Nat.mod_eq_of_lt (Nat.not_le.1 hovf)] at hbytes hfuel
  rw [decide_eq_false hovf]
  by_cases hzero : value58 text = 0
  · have hall := all_ones_of_value58_eq_zero hvalid hzero
    have hones : leadOnes text = text.length := leadOnes_of_all_ones hall
    have hzb : zeroBytes (refPayload text) = 25 := by rw [← payloadOf_value, hzero]; exact zeroBytes_payloadOf_zero
    rw [base58Encode_of_zero zd (hbytes.trans hzero) (by rw [hlength]; decide), ← zeroBytes, hzb, hones, hzero]
    have hiff (k : Nat) : text.length = k ↔ List.replicate k 0x31 = text := by
      rw [eq_comm (b := text), List.eq_replicate_iff]
      exact (and_iff_left hall).symm
    cases zd
    · exact decide_eq_decide.2 (hiff 25)
    · exact decide_eq_decide.2 (hiff 26)
  · have hacc : BitVec.ofNat 200 (value58 text) ≠ 0 := fun h => hzero (by
      have := congrArg BitVec.toNat h
      rwa [BitVec.toNat_ofNat, Nat.mod_eq_of_lt (Nat.not_le.1 hovf)] at this)
    obtain ⟨rest, htext, hhead⟩ := leadOnes_split text
    have hrest : value58 rest = value58 text := by
      conv_rhs => rw [htext, value58_replicate_one_append]
    have hrestValid : valid58 rest = true := (valid58_append.1 (htext ▸ hvalid)).2
    have hencode : base58Encode zd (refPayload text).toList = List.replicate (zeroBytes (refPayload text)) 0x31 ++ rest := by
      rw [base58Encode_of_ne_zero zd (hbytes ▸ hzero), hbytes, hlength, ← hrest,
        digits58_value58 hrestValid hhead (hrest ▸ hfuel), List.append_nil, zeroBytes]
    have hiff : base58Encode zd (refPayload text).toList = text ↔ leadOnes text = zeroBytes (refPayload text) := by
      rw [hencode]
      constructor
      · intro heq
        have hcount := congrArg List.length (heq.trans htext)
        simp only [List.length_append, List.length_replicate] at hcount
        omega
      · intro hcount
        rw [← hcount, ← htext]
    rw [canon, if_neg Bool.false_ne_true, if_neg (fun h => hacc h.1)]
    exact decide_eq_decide.2 hiff.symm

/-- B58_INFO after a valid string is that of the source's terms (R146, R150). -/
theorem infoDecoded_eq_refInfo (zd : ZeroDigit) {text : List Byte} (hvalid : valid58 text = true) :
    infoDecoded zd text.length text (BitVec.ofNat 200 (value58 text)) (decide (2 ^ 200 ≤ value58 text)) (refPayload text) =
      refInfo zd text := by
  rw [infoDecoded, canon_eq_roundTrip zd hvalid]
  rfl

/-- What the B58DEC steps leave of a valid string (R145, R146, R148). -/
theorem decodeSteps58_valid (zd : ZeroDigit) {L : Nat} {text : List Byte} (hlen : text.length = L) (hvalid : valid58 text = true) :
    decodeSteps58 zd L text = { payload := refPayload text, info := refInfo zd text, reason := .ok } := by
  rw [← hlen, decodeSteps58, scan58_of_valid hvalid]
  dsimp only
  rw [payloadOf_value, infoDecoded_eq_refInfo zd hvalid]

/-! ### The steps of B58CHK -/

section b58chk

variable (p : Params) (n : Network) {L : Nat} {text : List Byte}

theorem b58chkOf_length (h : L < 27 ∨ 35 < L) :
    b58chkOf p n L text = { dec := cleared58 .b58Len, computed := 0, carried := 0, reason := .b58Len } := if_pos h

variable (hlo : 27 ≤ L) (hhi : L ≤ 35)
include hlo hhi

theorem b58chkOf_invalid {before after : List Byte} {c : Byte} (htext : text = before ++ c :: after) (hbefore : valid58 before = true)
    (hc : digit58 c = none) :
    b58chkOf p n L text =
      { dec := { cleared58 .b58Char with info := infoInvalid before.length }, computed := 0, carried := 0, reason := .b58Char } := by
  rw [b58chkOf, if_neg (by omega), decodeSteps58_invalid p.zeroDigit L htext hbefore hc]
  rfl

variable (hlen : text.length = L) (hvalid : valid58 text = true)
include hlen hvalid

theorem b58chkOf_magic (hmagic : (refPayload text)[0] ∉ magicBytes n) :
    b58chkOf p n L text =
      { dec := { payload := refPayload text, info := refInfo p.zeroDigit text, reason := .ok }, computed := 0, carried := 0,
        reason := .b58Magic } := by
  rw [b58chkOf, if_neg (by omega), decodeSteps58_valid p.zeroDigit hlen hvalid]
  simp [hmagic]

theorem b58chkOf_checksum (hmagic : (refPayload text)[0] ∈ magicBytes n) :
    b58chkOf p n L text =
      { dec := { payload := refPayload text, info := refInfo p.zeroDigit text, reason := .ok }
        computed := checkComputed p.sha256 (refPayload text), carried := checkCarried (refPayload text)
        reason := checksum58Reason (checkComputed p.sha256 (refPayload text)) (checkCarried (refPayload text))
          (refInfo p.zeroDigit text).canon } := by
  rw [b58chkOf, if_neg (by omega), decodeSteps58_valid p.zeroDigit hlen hvalid]
  simp [hmagic]

end b58chk

theorem checksum58Reason_eq_ok {computed carried : Word} {canonical : Bool} :
    checksum58Reason computed carried canonical = .ok ↔ computed = carried ∧ canonical = true := by
  unfold checksum58Reason
  by_cases h : computed = carried <;> cases canonical <;> simp [h]

/-- The completion of B58CHK after steps whose outcome is known (R244, R272). -/
theorem exec_b58chk_of_steps {n : Network} {s : State} {r : Check58} (h : b58chkOf Config.params n s.inLen.toNat s.text = r) :
    exec (.b58chk n) s = .next
      { s with
        payload := r.dec.payload, b58Info := r.dec.info, chkCalc := r.computed, chkPay := r.carried
        result := decide (r.reason = .ok), path := false, reason := r.reason, busy := false, done := true } := by
  subst h
  rfl

/-! ### The inputs and the outputs of a completion -/

/-- A register that is no output of a command keeps its value (R61). -/
theorem completed_sameReg {i : Instr} (s : State) {r : DataReg} (h : r ∉ outputs i) : sameReg (completed i s) s r := by
  cases i with
  | hrpx =>
    by_cases hL : 90 < s.inLen.toNat <;> cases r <;> simp_all [outputs, sameReg, completed, hrpxDone, Nat.not_lt.2]
  | validate n =>
    by_cases hp : takesBech32 n s.inLen.toNat s.text = true <;>
    cases r <;> simp_all [outputs, base58Outputs, bech32Outputs, sameReg, completed, validateDone, State.clearBase58, State.putSegwit,
      State.putDecode32, State.clearBech32, State.putCheck58]
  | _ =>
    cases r <;> simp_all [outputs, base58Outputs, bech32Outputs, sameReg, completed, b58decDone, b58chkDone, polyDone, b32decDone,
      regrpDone, segwitDone, State.putCheck58, State.putDecode32, State.putSegwit]

/-- What a completion writes: its outputs, and the outcome in RESULT, REASON and PATH. -/
def sameCompletion (i : Instr) (t t' : State) : Prop :=
  (∀ r ∈ outputs i, sameReg t t' r) ∧ t.result = t'.result ∧ t.reason = t'.reason ∧ t.path = t'.path

theorem text_congr {s s' : State} (hlen : s.inLen = s'.inLen) (hbuf : s.inBuf = s'.inBuf) : s.text = s'.text := by
  rw [State.text, State.text, hlen, hbuf]

theorem symbols_congr {s s' : State} (hlen : s.symLen = s'.symLen) (hsym : s.sym = s'.sym) : s.symbols = s'.symbols := by
  rw [State.symbols, State.symbols, hlen, hsym]

/-- The commands that read the string write what its length and its stored characters determine. -/
theorem sameCompletion_of_text {i : Instr} {s s' : State} (hi : .inBuf ∈ inputs i) (hlen : s.inLen = s'.inLen)
    (htext : s.text = s'.text) : sameCompletion i (completed i s) (completed i s') := by
  unfold sameCompletion
  cases i with
  | b58dec => simp [outputs, sameReg, completed, b58decDone, hlen, htext]
  | b58chk n => simp [outputs, base58Outputs, sameReg, completed, b58chkDone, State.putCheck58, hlen, htext]
  | hrpx => by_cases hL : 90 < s'.inLen.toNat <;> simp [outputs, sameReg, completed, hrpxDone, hlen, htext, hL]
  | b32dec => simp [outputs, sameReg, completed, b32decDone, State.putDecode32, hlen, htext]
  | segwit n => simp [outputs, bech32Outputs, sameReg, completed, segwitDone, State.putSegwit, State.putDecode32, hlen, htext]
  | validate n =>
    by_cases hp : takesBech32 n s'.inLen.toNat s'.text = true <;>
    simp [outputs, base58Outputs, bech32Outputs, sameReg, completed, validateDone, hlen, htext, hp, State.clearBase58,
      State.putSegwit, State.putDecode32, State.clearBech32, State.putCheck58]
  | _ => simp [inputs] at hi

/-- The commands that read the symbols write what `SYM[0..SYM_LEN)` determines. -/
theorem sameCompletion_of_symbols {i : Instr} {s s' : State} (hi : .sym ∈ inputs i) (hsyms : s.symbols = s'.symbols) :
    sameCompletion i (completed i s) (completed i s') := by
  unfold sameCompletion
  cases i with
  | poly => simp [outputs, sameReg, completed, polyDone, hsyms]
  | regrp f t pad skip => simp [outputs, sameReg, completed, regrpDone, hsyms]
  | _ => simp [inputs] at hi

/-- A completion depends only on the inputs of its command (R59, R61). -/
theorem sameCompletion_completed {i : Instr} {s s' : State} (h : ∀ r ∈ inputs i, sameReg s s' r) :
    sameCompletion i (completed i s) (completed i s') := by
  cases i with
  | clr => simp [sameCompletion, outputs, base58Outputs, bech32Outputs, sameReg, completed, State.clearData]
  | poly => exact sameCompletion_of_symbols (by decide) (symbols_congr (h .symLen (by decide)) (h .sym (by decide)))
  | regrp f t pad skip =>
    have hlen := h .symLen (by simp [inputs])
    have hsym := h .sym (by simp [inputs])
    exact sameCompletion_of_symbols (by simp [inputs]) (symbols_congr hlen hsym)
  | _ =>
    have hlen := h .inLen (by simp [inputs])
    have hbuf := h .inBuf (by simp [inputs])
    exact sameCompletion_of_text (by simp [inputs]) hlen (text_congr hlen hbuf)

/-- The fields of the state that are neither a data register nor the outcome of a command. -/
def sameControl (t s : State) : Prop :=
  t.irqEn = s.irqEn ∧ t.cmd = s.cmd ∧ t.lcmd = s.lcmd ∧ t.illegal = s.illegal ∧ t.busyErr = s.busyErr ∧ t.accErr = s.accErr ∧
  t.schedule = s.schedule ∧ t.reads = s.reads ∧ t.draws = s.draws

/-- A completion leaves every field that is neither a data register nor the outcome (R61, R272). -/
theorem completed_sameControl (i : Instr) (s : State) : sameControl (completed i s) s := by
  obtain ⟨u, p, c, hu, hrest⟩ := completed_shape i s
  rw [hu]
  exact hrest

theorem sameReg.symm {s t : State} {r : DataReg} (h : sameReg s t r) : sameReg t s r := by
  cases r <;> exact Eq.symm h

theorem sameReg.trans {s t u : State} {r : DataReg} (h : sameReg s t r) (h' : sameReg t u r) : sameReg s u r := by
  cases r <;> exact Eq.trans h h'

theorem sameControl.symm {s t : State} (h : sameControl s t) : sameControl t s := by
  unfold sameControl at *
  grind

theorem sameControl.trans {s t u : State} (h : sameControl s t) (h' : sameControl t u) : sameControl s u := by
  unfold sameControl at *
  grind

/-- A state is its data registers, its control fields, and the outcome of the last command. -/
theorem State.eq_of_same {s t : State} (hdata : ∀ r, sameReg s t r) (hcontrol : sameControl s t) (hresult : s.result = t.result)
    (hreason : s.reason = t.reason) (hpath : s.path = t.path) (hbusy : s.busy = t.busy) (hdone : s.done = t.done) : s = t := by
  obtain ⟨hirq, hcmd, hlcmd, hillegal, hbusyErr, haccErr, hsched, hreads, hdraws⟩ := hcontrol
  have hinLen := hdata .inLen
  have hinBuf := hdata .inBuf
  have hsymLen := hdata .symLen
  have hsym := hdata .sym
  have houtLen := hdata .outLen
  have hout := hdata .out
  have hpayload := hdata .payload
  have hpoly := hdata .polyRes
  have hb58 := hdata .b58Info
  have hb32 := hdata .b32Info
  have hwver := hdata .wver
  have hcalc := hdata .chkCalc
  have hpay := hdata .chkPay
  cases s
  cases t
  simp_all [sameReg]

/-! ### Clearing the outputs -/

theorem clearReg_sameReg_reset (s : State) (d : DataReg) : sameReg (clearReg s d) State.reset d := by
  cases d <;> rfl

theorem clearReg_sameReg {r d : DataReg} (h : r ≠ d) (s : State) : sameReg (clearReg s d) s r := by
  cases d <;> cases r <;> simp_all [clearReg, sameReg]

theorem clearReg_sameControl (s : State) (d : DataReg) : sameControl (clearReg s d) s := by
  cases d <;> exact ⟨rfl, rfl, rfl, rfl, rfl, rfl, rfl, rfl, rfl⟩

theorem foldl_clearReg_sameReg {l : List DataReg} {r : DataReg} (h : r ∉ l) (s : State) : sameReg (l.foldl clearReg s) s r := by
  induction l generalizing s with
  | nil => cases r <;> rfl
  | cons d l ih =>
    obtain ⟨hd, hl⟩ := not_or.1 (mt List.mem_cons.2 h)
    exact (ih hl _).trans (clearReg_sameReg hd s)

theorem foldl_clearReg_sameReg_reset {l : List DataReg} {r : DataReg} (h : r ∈ l) (s : State) :
    sameReg (l.foldl clearReg s) State.reset r := by
  induction l generalizing s with
  | nil => cases h
  | cons d l ih =>
    by_cases hl : r ∈ l
    · exact ih hl _
    · obtain rfl : r = d := (List.mem_cons.1 h).resolve_right hl
      exact (foldl_clearReg_sameReg hl _).trans (clearReg_sameReg_reset s r)

theorem clearOutputs_sameControl (i : Instr) (s : State) : sameControl (clearOutputs i s) s :=
  List.foldlRecOn (motive := fun t => sameControl t s) (outputs i) clearReg ⟨rfl, rfl, rfl, rfl, rfl, rfl, rfl, rfl, rfl⟩
    fun t ht d _ => (clearReg_sameControl t d).trans ht

/-- No command reads a register that it writes (R61). -/
theorem not_mem_outputs_of_mem_inputs {i : Instr} {r : DataReg} (h : r ∈ inputs i) : r ∉ outputs i := by
  cases i <;> revert h <;> cases r <;> simp [inputs, outputs, base58Outputs, bech32Outputs]

/-- Clearing the outputs first changes no completion: the inputs are not cleared, and every output is written (R62, R272). -/
theorem completed_clearOutputs (i : Instr) (s : State) : completed i (clearOutputs i s) = completed i s := by
  obtain ⟨houtputs, hresult, hreason, hpath⟩ := sameCompletion_completed (i := i) (s := clearOutputs i s) (s' := s)
    fun r hr => foldl_clearReg_sameReg (not_mem_outputs_of_mem_inputs hr) s
  obtain ⟨hbusy, hdone⟩ := completed_busy_done i s
  obtain ⟨hbusy', hdone'⟩ := completed_busy_done i (clearOutputs i s)
  refine State.eq_of_same (fun r => ?_) ?_ hresult hreason hpath (hbusy'.trans hbusy.symm) (hdone'.trans hdone.symm)
  · by_cases hr : r ∈ outputs i
    · exact houtputs r hr
    · exact ((completed_sameReg _ hr).trans (foldl_clearReg_sameReg hr s)).trans (completed_sameReg s hr).symm
  · exact ((completed_sameControl i _).trans (clearOutputs_sameControl i s)).trans (completed_sameControl i s).symm

/-! ### The launch of a command -/

/-- The decoder reads every well-formed REGRP word (R117): all widths, both flags. -/
theorem decode_encode_regrp_table : ∀ (f t : Fin 16) (pad skip : Bool),
    (Instr.regrp (BitVec.ofFin f) (BitVec.ofFin t) pad skip).wf = true →
      decode (encode (.regrp (BitVec.ofFin f) (BitVec.ofFin t) pad skip)) = .ok (.regrp (BitVec.ofFin f) (BitVec.ofFin t) pad skip) := by
  decide +kernel

/-- The word of a command decodes to it (R117, R121). -/
theorem decode_encode {i : Instr} (h : WellFormed i) : decode (encode i) = .ok i := by
  cases i with
  | regrp f t pad skip => exact decode_encode_regrp_table f.toFin t.toFin pad skip h
  | b58chk n => cases n <;> decide +kernel
  | segwit n => cases n <;> decide +kernel
  | validate n => cases n <;> decide +kernel
  | _ => decide +kernel

theorem legal_encode {i : Instr} (h : WellFormed i) : legal (encode i) = true := by
  rw [legal, decode_encode h]
  rfl

/-- A command's word written to CMD of an idle block runs at the engine's next turn (R270, R272). -/
theorem engineTurn_hostWrite_encode {i : Instr} (h : WellFormed i) {s : State} (hb : s.busy = false) :
    engineTurn (hostWrite 0x008 0xF (encode i) s) = .next (completed i (s.issue (encode i))) := by
  rw [hostWrite_cmd hb, State.writeCmd_of_legal (legal_encode h), engineTurn_busy rfl (decode_encode h), exec_eq_completed h]

/-! ### The ranges of the fields a completion writes -/

/-- The ranges of B58_INFO (R47), and that a decode does not both stop and run to its end (R146). -/
structure B58Info.InRange (x : B58Info) : Prop where
  zb_le : x.zb.toNat ≤ 25
  lead1_le : x.lead1.toNat ≤ 90
  invPos_le : x.invPos.toNat ≤ 89
  dec_excl : ¬ (x.invChar = true ∧ x.dec = true)

/-- The ranges of B32_INFO (R48). -/
structure B32Info.InRange (x : B32Info) : Prop where
  sepPos_le : x.sepPos.toNat ≤ 89
  dataLen_le : x.dataLen.toNat ≤ 89

theorem B58Info.inRange_cleared : B58Info.cleared.InRange where
  zb_le := by decide
  lead1_le := by decide
  invPos_le := by decide
  dec_excl := by decide

theorem B32Info.inRange_cleared : B32Info.cleared.InRange where
  sepPos_le := by decide
  dataLen_le := by decide

theorem text_length_le (s : State) : s.text.length ≤ 90 := by
  rw [text_length]
  exact Nat.min_le_right _ _

/-- The scan stops inside the string (R142). -/
theorem scan58_invalid_lt {l : List Byte} {i : Nat} {acc : BitVec 200} {ovf : Bool} {pos : Nat}
    (h : scan58 l i acc ovf = .invalid pos) : pos < i + l.length := by
  induction l generalizing i acc ovf with
  | nil => cases h
  | cons c cs ih =>
    unfold scan58 at h
    rw [List.length_cons]
    cases hd : digit58 c with
    | none =>
      rw [hd] at h
      obtain rfl := Scan58.invalid.inj h
      omega
    | some d =>
      rw [hd] at h
      have := ih h
      omega

theorem decodeSteps58_info_inRange (zd : ZeroDigit) (L : Nat) {text : List Byte} (h : text.length ≤ 90) :
    (decodeSteps58 zd L text).info.InRange := by
  unfold decodeSteps58
  cases hs : scan58 text 0 0 false with
  | invalid pos =>
    have := scan58_invalid_lt hs
    exact { B58Info.inRange_cleared with
      invPos_le := by simp only [infoInvalid, BitVec.toNat_ofNat]; omega
      dec_excl := by simp [infoInvalid, B58Info.cleared] }
  | decoded acc ovf =>
    have hzb := zeroBytes_le (payloadOf acc)
    have hlead := leadOnes_le text
    exact {
      zb_le := by simp only [infoDecoded, BitVec.toNat_ofNat]; omega
      lead1_le := by simp only [infoDecoded, BitVec.toNat_ofNat]; omega
      invPos_le := by simp [infoDecoded]
      dec_excl := by simp [infoDecoded] }

theorem b58decOf_info_inRange (zd : ZeroDigit) (L : Nat) {text : List Byte} (h : text.length ≤ 90) :
    (b58decOf zd L text).info.InRange := by
  unfold b58decOf
  split
  · exact B58Info.inRange_cleared
  · exact decodeSteps58_info_inRange zd L h

theorem b58chkOf_info_inRange (p : Params) (n : Network) (L : Nat) {text : List Byte} (h : text.length ≤ 90) :
    (b58chkOf p n L text).dec.info.InRange := by
  have hsteps := decodeSteps58_info_inRange p.zeroDigit L h
  unfold b58chkOf
  split
  · exact B58Info.inRange_cleared
  · dsimp only
    split
    · exact hsteps
    split
    · exact hsteps
    · exact hsteps

theorem lastOne_lt {l : List Byte} {pos : Nat} (h : lastOne l = some pos) : pos < l.length := by
  obtain ⟨hnone, -⟩ | ⟨before, after, rfl, hpos, -⟩ := lastOne_spec l
  · simp [hnone] at h
  · obtain rfl : before.length = pos := Option.some.inj (hpos.symm.trans h)
    simp

@[simp] theorem checksumSteps_info (info : B32Info) (hrp data : List Byte) : (checksumSteps info hrp data).info = info := by
  unfold checksumSteps
  dsimp only
  split <;> rfl

theorem checksumSteps_syms_length_le (info : B32Info) (hrp data : List Byte) :
    (checksumSteps info hrp data).syms.length ≤ data.length := by
  unfold checksumSteps
  dsimp only
  split
  · exact Nat.zero_le _
  · exact List.length_take_le' _ _

/-- Once the separator is found, B32_INFO stays, whichever check the string fails (R197, R198). -/
@[simp] theorem separatedSteps_info (ok : Bool) (L : Nat) (lc : List Byte) (pos : Nat) :
    (separatedSteps ok L lc pos).info = infoFound pos (L - pos - 1) := by
  unfold separatedSteps
  dsimp only
  split
  · rfl
  split
  · rfl
  split
  · rfl
  · exact checksumSteps_info _ _ _

theorem separatedSteps_syms_length_le (ok : Bool) (L : Nat) (lc : List Byte) (pos : Nat) :
    (separatedSteps ok L lc pos).syms.length ≤ lc.length := by
  unfold separatedSteps
  dsimp only
  split
  · exact Nat.zero_le _
  split
  · exact Nat.zero_le _
  split
  · exact Nat.zero_le _
  · rename_i data hdata
    calc (checksumSteps _ _ data).syms.length
      _ ≤ data.length := checksumSteps_syms_length_le _ _ _
      _ = (lc.drop (pos + 1)).length := (symbolsOf_some hdata).1
      _ ≤ lc.length := by simp

/-- A bech32 decode stops before the separator with nothing written, or goes on from it (R197). -/
theorem decode32_cases (ok : Bool) (L : Nat) (text : List Byte) :
    (∃ r, decode32 ok L text = cleared32 r) ∨
    ∃ pos, L ≤ 90 ∧ pos < text.length ∧ decode32 ok L text = separatedSteps ok L (text.map fold) pos := by
  unfold decode32
  split
  · exact .inl ⟨_, rfl⟩
  split
  · exact .inl ⟨_, rfl⟩
  split
  · exact .inl ⟨_, rfl⟩
  split
  · exact .inl ⟨_, rfl⟩
  · rename_i hL _ _ _ pos hpos
    exact .inr ⟨pos, Nat.not_lt.1 hL, by simpa using lastOne_lt hpos, rfl⟩

theorem infoFound_inRange {pos d : Nat} (hpos : pos ≤ 89) (hd : d ≤ 89) : (infoFound pos d).InRange where
  sepPos_le := by simp only [infoFound, BitVec.toNat_ofNat]; omega
  dataLen_le := by simp only [infoFound, BitVec.toNat_ofNat]; omega

theorem decode32_info_inRange (ok : Bool) (L : Nat) {text : List Byte} (h : text.length ≤ 90) :
    (decode32 ok L text).info.InRange := by
  obtain ⟨r, hr⟩ | ⟨pos, hL, hpos, hr⟩ := decode32_cases ok L text
  · rw [hr]
    exact B32Info.inRange_cleared
  · rw [hr, separatedSteps_info]
    exact infoFound_inRange (by omega) (by omega)

theorem decode32_syms_length_le (ok : Bool) (L : Nat) (text : List Byte) : (decode32 ok L text).syms.length ≤ text.length := by
  obtain ⟨r, hr⟩ | ⟨pos, -, -, hr⟩ := decode32_cases ok L text
  · rw [hr]
    exact Nat.zero_le _
  · rw [hr]
    simpa using separatedSteps_syms_length_le ok L (text.map fold) pos

/-- The symbols fit SYM (R44). -/
theorem decode32_syms_length_le_192 (ok : Bool) (L : Nat) {text : List Byte} (h : text.length ≤ 90) :
    (decode32 ok L text).syms.length ≤ 192 :=
  (decode32_syms_length_le ok L text).trans (h.trans (by decide))

/-- The regrouper's loop loses no bit: those of its values and those still pending are those it was given (R210). -/
theorem regroupLoop_length {f t : Nat} (ht : 1 ≤ t) {data vs : List Nat} {acc bits accEnd bitsEnd : Nat}
    (h : regroupLoop f t data acc bits = some (vs, accEnd, bitsEnd)) : t * vs.length + bitsEnd = f * data.length + bits := by
  induction data generalizing acc bits vs with
  | nil =>
    obtain ⟨rfl, -, rfl⟩ : [] = vs ∧ acc = accEnd ∧ bits = bitsEnd := by simpa [regroupLoop] using h
    simp
  | cons v data ih =>
    unfold regroupLoop at h
    dsimp only at h
    split at h
    · cases h
    split at h
    · cases h
    · rename_i rest accRest bitsRest hrest
      simp only [Option.some.injEq, Prod.mk.injEq] at h
      obtain ⟨rfl, rfl, rfl⟩ := h
      obtain ⟨hlen, hleft, -⟩ := drain_spec ht (((acc <<< f) ||| v) &&& (2 ^ (f + t - 1) - 1)) _ _ (Nat.le_refl (bits + f))
      have htail := ih hrest
      have hdrained := Nat.div_add_mod (bits + f) t
      rw [hleft] at htail
      rw [List.length_append, List.length_cons, hlen, Nat.mul_add, Nat.mul_add]
      omega

/-- Without padding the output holds no more bits than the input (R210). -/
theorem convertBits_length_le {f t : Nat} (ht : 1 ≤ t) {data vs : List Nat} (h : convertBits data f t false = .values vs) :
    t * vs.length ≤ f * data.length := by
  unfold convertBits at h
  cases hloop : regroupLoop f t data 0 0 with
  | none => simp [hloop] at h
  | some out =>
    obtain ⟨ws, acc, bits⟩ := out
    have hlen := regroupLoop_length ht hloop
    simp only [hloop, Bool.false_eq_true, if_false] at h
    split at h
    · cases h
    split at h
    · cases h
    · obtain rfl := Regrouped.values.inj h
      omega

theorem regrpOf_length_le (data : List Byte) (f t : Nat) (pad : Bool) : (regrpOf data f t pad).1.length ≤ 256 := by
  unfold regrpOf
  cases convertBits (naturals data) f t pad with
  | values vs =>
    dsimp only
    split
    · exact Nat.zero_le _
    · rename_i h
      simpa [bytesOf] using h
  | _ => exact Nat.zero_le _

theorem wverOf_clear (syms : List Byte) : (wverOf syms).wv = false → (wverOf syms).ver = 0 := by
  cases syms with
  | nil => exact fun _ => rfl
  | cons v vs => exact fun h => nomatch h

/-- The SEGWIT steps keep the B32DEC outputs, write at most 256 bytes, and leave VER 0 where WV is 0 (R222). -/
theorem programSteps_ranges {b : Decode32} (h : b.syms.length ≤ 90) :
    (programSteps b).b32 = b ∧ (programSteps b).out.length ≤ 256 ∧
      ((programSteps b).wver.wv = false → (programSteps b).wver.ver = 0) := by
  unfold programSteps
  dsimp only
  cases hc : convertBits (naturals (b.syms.drop 1)) 5 8 false with
  | values vs =>
    have hbits : 8 * vs.length ≤ 5 * (b.syms.length - 1) := by simpa [naturals] using convertBits_length_le (by omega) hc
    exact ⟨rfl, by simp only [bytesOf, List.length_map]; omega, wverOf_clear _⟩
  | _ => exact ⟨rfl, Nat.zero_le _, wverOf_clear _⟩

theorem segwitOf_ranges (ok : Bool) (n : Network) (L : Nat) {text : List Byte} (h : text.length ≤ 90) :
    (segwitOf ok n L text).b32 = decode32 ok L text ∧ (segwitOf ok n L text).out.length ≤ 256 ∧
      ((segwitOf ok n L text).wver.wv = false → (segwitOf ok n L text).wver.ver = 0) := by
  unfold segwitOf
  dsimp only
  split
  · exact ⟨rfl, Nat.zero_le _, fun _ => rfl⟩
  split
  · exact ⟨rfl, Nat.zero_le _, fun _ => rfl⟩
  · exact programSteps_ranges ((decode32_syms_length_le ok L text).trans h)

/-! ### The invariant, operation by operation -/

namespace State.Inv

variable {s : State}

theorem putPayload (h : s.Inv) {pay : Vector Byte 25} {info : B58Info} (hinfo : info.InRange) : (s.putPayload pay info).Inv :=
  { h with
    zb_le := hinfo.zb_le
    lead1_le := hinfo.lead1_le
    invPos_le := hinfo.invPos_le
    dec_excl := hinfo.dec_excl }

theorem putChecksums (h : s.Inv) (a b : Word) : (s.putChecksums a b).Inv := { h with }

theorem putSymbols (h : s.Inv) {l : List Byte} (hl : l.length ≤ 192) : (s.putSymbols l).Inv :=
  { h with symLen_le := by rw [putSymbols_symLen, BitVec.toNat_ofNat]; omega }

theorem putPoly (h : s.Inv) (r : BitVec 30) : (s.putPoly r).Inv := { h with }

theorem putB32Info (h : s.Inv) {info : B32Info} (hinfo : info.InRange) : (s.putB32Info info).Inv :=
  { h with
    sepPos_le := hinfo.sepPos_le
    dataLen_le := hinfo.dataLen_le }

theorem putOut (h : s.Inv) {l : List Byte} (hl : l.length ≤ 256) : (s.putOut l).Inv := by
  have hlen : (s.putOut l).outLen.toNat = l.length := by
    rw [putOut_outLen, BitVec.toNat_ofNat]
    omega
  exact { h with
    outLen_le := hlen ▸ hl
    out_tail := fun i hi => by
      rw [hlen] at hi
      simp [List.getElem?_eq_none hi] }

theorem putWVer (h : s.Inv) {v : WVer} (hv : v.wv = false → v.ver = 0) : (s.putWVer v).Inv := { h with wver_clear := hv }

theorem clearInput (h : s.Inv) : s.clearInput.Inv := { h with }

/-- A completion ends a run of the engine: the relations of an idle block hold, PATH apart, which the command must account for. -/
theorem complete (h : s.Inv) {path : Bool} (c : Reason) (hpath : path = true → ∃ n, decode s.cmd = .ok (.validate n)) :
    (s.complete path c).Inv :=
  { h with
    busy_done := fun hb => nomatch hb
    busy_latch := fun hb => nomatch hb
    busy_legal := fun hb => nomatch hb
    result_ok := by simp
    ok_result := fun _ hok hres => by simp_all
    path_validate := fun _ => hpath }

theorem issue (h : s.Inv) {w : Word} (hw : legal w = true) : (s.issue w).Inv :=
  { h with
    busy_done := fun _ => rfl
    busy_latch := fun _ => rfl
    busy_legal := fun _ => hw
    ok_result := fun hb => nomatch hb
    path_validate := fun hb => nomatch hb }

theorem raiseIllegal (h : s.Inv) (hb : s.busy = false) (w : Word) : (s.raiseIllegal w).Inv :=
  { h with
    busy_done := fun hb' => absurd (hb.symm.trans hb') Bool.false_ne_true
    busy_latch := fun hb' => absurd (hb.symm.trans hb') Bool.false_ne_true
    result_ok := fun hres => nomatch hres
    ok_result := fun _ hok => nomatch hok
    path_validate := fun _ hp => nomatch hp }

theorem accessError (h : s.Inv) : s.accessError.Inv := { h with }

theorem busyError (h : s.Inv) : s.busyError.Inv := { h with }

theorem acknowledge (h : s.Inv) (v : Word) : (s.acknowledge v).Inv :=
  { h with
    busy_done := fun hb => by simp [h.busy_done hb]
    ok_result := fun hb hok hres => by
      obtain ⟨hcmd, hdone⟩ := h.ok_result hb hok hres
      exact ⟨hcmd, by simp [hdone]⟩ }

theorem recordRead (h : s.Inv) (v : Word) : (s.recordRead v).Inv := { h with }

theorem countDraw (h : s.Inv) : s.countDraw.Inv := { h with }

theorem setSchedule (h : s.Inv) (es : List Event) : (s.setSchedule es).Inv := { h with }

end State.Inv

theorem State.inv_reset : State.reset.Inv where
  busy_done := fun h => nomatch h
  busy_latch := fun h => nomatch h
  busy_legal := fun h => nomatch h
  symLen_le := by decide
  outLen_le := by decide
  zb_le := by decide
  lead1_le := by decide
  invPos_le := by decide
  dec_excl := by decide
  sepPos_le := by decide
  dataLen_le := by decide
  out_tail := fun i _ => by simp [State.reset]
  wver_clear := fun _ => rfl
  result_ok := fun h => nomatch h
  ok_result := fun _ _ _ => ⟨rfl, rfl⟩
  path_validate := fun _ h => nomatch h

theorem State.inv_resetBlock (s : State) : s.resetBlock.Inv := { State.inv_reset with }

/-! ### The invariant, step by step -/

namespace State.Inv

variable {s : State}

theorem putDecode32 (h : s.Inv) {r : Decode32} (hinfo : r.info.InRange) (hsyms : r.syms.length ≤ 192) : (s.putDecode32 r).Inv :=
  ((h.putSymbols hsyms).putPoly _).putB32Info hinfo

theorem putSegwit (h : s.Inv) {r : DecodeSeg} (hinfo : r.b32.info.InRange) (hsyms : r.b32.syms.length ≤ 192)
    (hout : r.out.length ≤ 256) (hwver : r.wver.wv = false → r.wver.ver = 0) : (s.putSegwit r).Inv :=
  ((h.putDecode32 hinfo hsyms).putOut hout).putWVer hwver

theorem putCheck58 (h : s.Inv) {r : Check58} (hinfo : r.dec.info.InRange) : (s.putCheck58 r).Inv :=
  (h.putPayload hinfo).putChecksums _ _

theorem clearData (h : s.Inv) : s.clearData.Inv :=
  ((((((h.clearInput.putSymbols (Nat.zero_le _)).putOut (Nat.zero_le _)).putPayload B58Info.inRange_cleared).putPoly _).putB32Info
    B32Info.inRange_cleared).putWVer fun _ => rfl).putChecksums _ _

theorem clearBase58 (h : s.Inv) : s.clearBase58.Inv := (h.putPayload B58Info.inRange_cleared).putChecksums _ _

theorem clearBech32 (h : s.Inv) : s.clearBech32.Inv :=
  ((h.putDecode32 B32Info.inRange_cleared (Nat.zero_le _)).putOut (Nat.zero_le _)).putWVer fun _ => rfl

/-- The bech32 decode of the string of `u`, written to any state. -/
theorem putDecode32_text (h : s.Inv) (ok : Bool) (u : State) : (s.putDecode32 (decode32 ok u.inLen.toNat u.text)).Inv :=
  h.putDecode32 (decode32_info_inRange _ _ (text_length_le u)) (decode32_syms_length_le_192 _ _ (text_length_le u))

theorem putSegwit_text (h : s.Inv) (ok : Bool) (n : Network) (u : State) :
    (s.putSegwit (segwitOf ok n u.inLen.toNat u.text)).Inv := by
  obtain ⟨hb32, hout, hwver⟩ := segwitOf_ranges ok n u.inLen.toNat (text_length_le u)
  refine h.putSegwit ?_ ?_ hout hwver
  · rw [hb32]
    exact decode32_info_inRange _ _ (text_length_le u)
  · rw [hb32]
    exact decode32_syms_length_le_192 _ _ (text_length_le u)

theorem putCheck58_text (h : s.Inv) (p : Params) (n : Network) (u : State) :
    (s.putCheck58 (b58chkOf p n u.inLen.toNat u.text)).Inv :=
  h.putCheck58 (b58chkOf_info_inRange p n _ (text_length_le u))

theorem hrpxDone (h : s.Inv) : (Machine.hrpxDone s).Inv := by
  unfold Machine.hrpxDone
  split
  · exact (h.putSymbols (Nat.zero_le _)).complete _ nofun
  · have hlen : (hrpExpand s.text).length ≤ 192 := by
      have := text_length_le s
      simp only [hrpExpand, List.length_append, List.length_map, List.length_singleton]
      omega
    exact (h.putSymbols hlen).complete _ nofun

theorem validateDone (h : s.Inv) (p : Params) {n : Network} (hcmd : decode s.cmd = .ok (.validate n)) :
    (Machine.validateDone p n s).Inv := by
  unfold Machine.validateDone
  split
  · refine (h.clearBase58.putSegwit_text p.emptyHrpOk n s).complete _ fun _ => ⟨n, ?_⟩
    simpa [State.clearBase58, State.putSegwit, State.putDecode32] using hcmd
  · exact (h.clearBech32.putCheck58_text p n s).complete _ nofun

/-- The completion of the command in CMD keeps the invariant (R272). -/
theorem completed (h : s.Inv) {i : Instr} (hcmd : decode s.cmd = .ok i) : (Machine.completed i s).Inv := by
  cases i with
  | clr => exact h.clearData.complete _ nofun
  | b58dec => exact (h.putPayload (b58decOf_info_inRange _ _ (text_length_le s))).complete _ nofun
  | b58chk n => exact (h.putCheck58_text _ n s).complete _ nofun
  | poly => exact (h.putPoly _).complete _ nofun
  | hrpx => exact h.hrpxDone
  | b32dec => exact (h.putDecode32_text _ s).complete _ nofun
  | regrp f t pad skip => exact (h.putOut (regrpOf_length_le _ _ _ _)).complete _ nofun
  | segwit n => exact (h.putSegwit_text _ n s).complete _ nofun
  | validate n => exact h.validateDone _ hcmd

theorem writeCmd (h : s.Inv) (hb : s.busy = false) (w : Word) : (s.writeCmd w).Inv := by
  unfold State.writeCmd
  split
  · rename_i hw
    exact h.issue hw
  · exact h.raiseIllegal hb w

/-- A store that passed the checks of R89 keeps the invariant: the block is idle at a CMD write, and SYM_LEN stays in range (R44, R91). -/
theorem storeReg (h : s.Inv) {r : Reg} {v : Word} (hlock : s.busy = true → locks r = false) (hrange : outOfRange r v = false) :
    (Machine.storeReg v s r).Inv := by
  cases r with
  | cmd => exact h.writeCmd (Bool.eq_false_iff.2 fun hb => nomatch hlock hb) v
  | status => exact h.acknowledge v
  | symLen =>
    have hv : v.toNat ≤ 192 := by simpa [outOfRange] using hrange
    exact { h with
      symLen_le := by
        simp only [Machine.storeReg, BitVec.extractLsb'_toNat, Nat.shiftRight_zero]
        omega }
  | ctrl => exact { h with }
  | inLen => exact { h with }
  | inBuf i => exact { h with }
  | sym i => exact { h with }
  | _ => exact h

theorem hostWrite (h : s.Inv) (off : Offset) (strb : Strobe) (v : Word) : (Machine.hostWrite off strb v s).Inv := by
  obtain hw | hw | ⟨r, -, -, hlock, hrange, hw⟩ := hostWrite_cases off strb v s
  · exact hw ▸ h.accessError
  · exact hw ▸ h.busyError
  · exact hw ▸ h.storeReg hlock hrange

theorem hostRead (h : s.Inv) (off : Offset) : (Machine.hostRead off s).2.Inv := by
  obtain hr | hr | ⟨-, hr⟩ := hostRead_state off s
  · exact hr.symm ▸ h
  · exact hr ▸ h.accessError
  · exact hr ▸ h.countDraw

theorem hostAccess (h : s.Inv) (a : Access) : (Machine.hostAccess a s).Inv := by
  cases a with
  | read off => exact (h.hostRead off).recordRead _
  | write off strb v => exact h.hostWrite off strb v

theorem accessInReset (h : s.Inv) (a : Access) : (Machine.accessInReset s a).Inv := by
  cases a with
  | write off strb v => exact h
  | read off =>
    unfold Machine.accessInReset
    dsimp only
    split
    · exact h.recordRead _
    · exact h.recordRead _

end State.Inv

theorem hostReset_inv (as : List Access) (s : State) : (hostReset as s).Inv :=
  List.foldlRecOn as accessInReset s.inv_resetBlock fun _ h a _ => h.accessInReset a

theorem engineTurn_inv {s t : State} (h : s.Inv) (ht : engineTurn s = .next t) : t.Inv := by
  obtain ⟨-, rfl⟩ | ⟨hb, i, hd, -, rfl⟩ := engineTurn_next ht
  · exact h
  · exact h.completed (h.busy_latch hb ▸ hd)

/-! ### The statements -/

/-- Settles O22, field by field. -/
theorem invariantHoldsAtReset : Obligations.InvariantHoldsAtReset := State.inv_reset

/-- Settles O23: a step is a host access, a reset or the engine's turn, and each keeps the invariant. -/
theorem invariantKeptByEveryStep : Obligations.InvariantKeptByEveryStep := by
  intro s t h hstep
  obtain ⟨a, es, -, rfl⟩ | ⟨as, es, -, rfl⟩ | ⟨es, -, ht⟩ := step_next hstep
  · exact (h.setSchedule es).hostAccess a
  · exact hostReset_inv as _
  · exact engineTurn_inv (h.setSchedule es) ht

/-- Settles O5, from the one equivalence between an offset and its register. -/
theorem offsetMapIsComplete : Obligations.OffsetMapIsComplete :=
  fun _ => ⟨fun _ => regAt_eq_some, rfl, fun _ => regAt_eq_some, fun _ => regAt_eq_some, fun _ => regAt_eq_some, fun _ => regAt_eq_some⟩

/-- Settles O7: each field is read back from the packed word where it stands. -/
theorem registerWordsHoldTheirFields : Obligations.RegisterWordsHoldTheirFields := by
  refine ⟨fun s => ?_, statusWord_getLsbD, b58InfoWord_fields, b32InfoWord_fields, wverWord_fields⟩
  have hctrl : regValue s .ctrl = if s.irqEn then 1 else 0 := by
    cases h : s.irqEn <;> (rw [regValue, h]; rfl)
  exact ⟨rfl, hctrl, rfl, rfl, fieldAt_zero _, rfl, fieldAt_zero _, fieldAt_zero _, fieldAt_zero _, rfl, rfl, rfl, rfl, rfl,
    fun _ => fieldAt_zero _, fun _ => fieldAt_zero _, fun _ => fieldAt_zero _, fun _ => fieldAt_zero _⟩

/-- Settles O8: every word is made of fields, and each field's own bits miss the mask. -/
theorem reservedBitsReadZero : Obligations.ReservedBitsReadZero := by
  intro s
  have hbyte (v : Byte) : fieldAt 0 v &&& 0xFFFFFF00 = 0 := fieldAt_and_eq_zero v (by decide)
  exact ⟨fieldAt_and_eq_zero (BitVec.ofBool s.irqEn) (by decide), statusWord_reserved s, hbyte _, hbyte _,
    fieldAt_and_eq_zero s.outLen (by decide), fieldAt_and_eq_zero s.polyRes (by decide), b58InfoWord_reserved _,
    b32InfoWord_reserved _, wverWord_reserved _, fun _ => hbyte _, fun _ => hbyte _, fun _ => hbyte _, fun _ => hbyte _⟩

/-- Settles O10, register by register: each write passes the checks of R89. -/
theorem writeStoresItsRegister : Obligations.WriteStoresItsRegister :=
  fun s v => ⟨hostWrite_ctrl v s, hostWrite_status v s, fun hb =>
    ⟨hostWrite_cmd hb v, hostWrite_inLen hb v, hostWrite_symLen hb v, fun _ _ h => hostWrite_inBuf hb v h,
      fun _ _ h => hostWrite_sym hb v h⟩⟩

/-- Settles O12: the write leaves the block idle, so the read returns the register as the write stored it. -/
theorem writtenValueReadsBack : Obligations.WrittenValueReadsBack := by
  intro s v hb
  have hmask : (0xFF : Word) = fieldAt 0 (BitVec.allOnes 8) := rfl
  refine ⟨?_, ?_, fun hv => ?_, fun hv => ?_, fun off i h => ?_, fun off i h => ?_⟩
  · rw [hostRead_hostWrite hb regAt_ctrl nofun rfl rfl]
    exact flagAt_zero_getLsbD v
  · rw [hostRead_hostWrite hb regAt_inLen nofun rfl rfl]
    rfl
  · rw [hostRead_hostWrite hb regAt_symLen nofun rfl (by simpa [outOfRange] using hv)]
    exact fieldAt_zero_extractLsb'_of_lt (by omega)
  · rw [hostWrite_symLen_outOfRange hb v hv, hostRead_idle regAt_symLen hb, hostRead_idle (s := s.accessError) regAt_symLen hb]
    rfl
  · rw [hostRead_hostWrite hb h nofun rfl rfl, hmask, ← fieldAt_zero_extractLsb']
    simp [storeReg, regValue]
  · rw [hostRead_hostWrite hb h nofun rfl rfl, hmask, ← fieldAt_zero_extractLsb']
    simp [storeReg, regValue]

/-- Settles O13, from the write's effect and the bits of the STATUS word. -/
theorem acknowledgeClearsTheNamedFlags : Obligations.AcknowledgeClearsTheNamedFlags := by
  intro s v
  refine ⟨?_, fun k hk => ?_⟩
  · have hclear (a b : Bool) : (a && !b) = if b then false else a := by cases b <;> simp
    rw [hostWrite_status, State.acknowledge]
    simp only [hclear]
  · rw [statusWord_getLsbD]
    grind

/-- Settles O17, register by register. -/
theorem resetLeavesZeros : Obligations.ResetLeavesZeros := by
  refine ⟨fun r => ?_, rfl⟩
  cases r with
  | inBuf i => simp [regValue, State.reset, fieldAt]
  | sym i => simp [regValue, State.reset, fieldAt]
  | payload i => simp [regValue, State.reset, fieldAt]
  | out i => simp [regValue, State.reset, fieldAt]
  | _ => decide

/-- Settles O26: an access changes a flag in one of the ways of `hostAccess_misuse`, a reset clears all three, the engine keeps them. -/
theorem misuseFlagsChangeOnlyAsStated : Obligations.MisuseFlagsChangeOnlyAsStated := by
  intro s t hstep
  obtain ⟨a, es, hs, rfl⟩ | ⟨as, es, hs, rfl⟩ | ⟨es, -, ht⟩ := step_next hstep
  · rw [hs]
    obtain h | ⟨herr, h⟩ | ⟨⟨off, v, r, rfl, hb, hr, hl⟩, h⟩ | ⟨⟨w, rfl, hb, hw⟩, h⟩ | ⟨v, rfl, h⟩ :=
      hostAccess_misuse a (s.setSchedule es) <;>
    simp only [State.misuse, Prod.mk.injEq, State.setSchedule_illegal, State.setSchedule_busyErr, State.setSchedule_accErr] at h <;>
    obtain ⟨hi, hbe, hae⟩ := h
    · grind
    · grind [accessErrs, State.setSchedule_busy]
    · grind [State.setSchedule_busy]
    · grind [State.setSchedule_busy]
    · grind
  · obtain ⟨hi, hbe, hae⟩ : _ ∧ _ ∧ _ := by simpa [State.misuse] using (hostReset_misuse_busy as (s.setSchedule es)).1
    rw [hi, hbe, hae]
    exact ⟨nofun, nofun, nofun, fun _ _ => .inl ⟨as, es, hs⟩⟩
  · have h := engineTurn_misuse ht
    obtain ⟨hi, hbe, hae⟩ : t.illegal = s.illegal ∧ t.busyErr = s.busyErr ∧ t.accErr = s.accErr := by
      simpa [State.misuse] using h
    rw [hi, hbe, hae]
    grind

/-- Settles O27: among the accesses only an issue changes BUSY, and the engine's turn clears it by completing the latched command. -/
theorem busyRisesAtIssueAndFallsAtCompletion : Obligations.BusyRisesAtIssueAndFallsAtCompletion := by
  intro s t hstep
  obtain ⟨a, es, hs, rfl⟩ | ⟨as, es, hs, rfl⟩ | ⟨es, hs, ht⟩ := step_next hstep
  · obtain h | ⟨w, rfl, hb, hw, h⟩ := hostAccess_busy a (s.setSchedule es)
    · rw [h]
      exact ⟨fun h0 h1 => absurd (h0.symm.trans h1) nofun, fun h1 h0 => absurd (h0.symm.trans h1) nofun⟩
    · rw [h]
      exact ⟨fun _ _ => ⟨w, es, hs, hw, rfl⟩, fun _ h0 => nomatch h0⟩
  · refine ⟨fun _ h1 => ?_, fun _ _ => .inl ⟨as, es, hs⟩⟩
    rw [(hostReset_misuse_busy as _).2] at h1
    cases h1
  · obtain ⟨hb, rfl⟩ | ⟨hb, i, hd, hi, rfl⟩ := engineTurn_next ht
    · exact ⟨fun h0 h1 => absurd (h0.symm.trans h1) nofun, fun h1 h0 => absurd (h0.symm.trans h1) nofun⟩
    · refine ⟨fun h0 _ => absurd (h0.symm.trans hb) nofun, fun _ _ => .inr ⟨?_, i, hd, ?_⟩⟩
      · exact hs.elim (fun h => .inr ⟨es, h⟩) fun h => .inl h.1
      · have htail : s.schedule.tail = es := by rcases hs with h | ⟨h, rfl⟩ <;> rw [h] <;> rfl
        rw [exec_eq_completed hi, htail]
        rfl

/-- Settles O29, from the frame of a completion over the data registers and over the control fields. -/
theorem commandsWriteOnlyTheirOutputs : Obligations.CommandsWriteOnlyTheirOutputs := by
  intro i s t h
  obtain ⟨-, rfl⟩ := exec_next h
  obtain ⟨hirq, hcmd, hlcmd, hillegal, hbusyErr, haccErr, hsched, hreads, hdraws⟩ := completed_sameControl i s
  refine ⟨fun r hr => completed_sameReg s hr, hirq, hcmd, hlcmd, hillegal, hbusyErr, haccErr, hsched, hreads, hdraws, ?_, ?_⟩
  · exact ⟨.rfl, .rfl, .rfl, .rfl, .rfl, .rfl, .rfl, .rfl, .rfl, .rfl, .rfl, .rfl, .rfl⟩
  · cases i <;> rfl

/-- Settles O31: the issue leaves the inputs alone, and two completions from the same inputs write the same. -/
theorem commandsDependOnlyOnTheirInputs : Obligations.CommandsDependOnlyOnTheirInputs := by
  refine ⟨fun i => by cases i <;> rfl, fun i s s' t t' hin h h' => ?_, fun i s want u hready h => ?_⟩
  · obtain ⟨-, rfl⟩ := exec_next h
    obtain ⟨-, rfl⟩ := exec_next h'
    exact sameCompletion_completed hin
  · obtain ⟨hi, rfl⟩ := exec_next h
    have hin : ∀ r ∈ inputs i, sameReg (s.issue (encode i)) want r := fun r hr => by
      have := hready.intended r hr
      cases r <;> exact this
    obtain ⟨houtputs, hresult, hreason, hpath⟩ := sameCompletion_completed hin
    obtain ⟨-, -, -, hillegal, hbusyErr, haccErr, -⟩ := completed_sameControl i (s.issue (encode i))
    exact ⟨_, engineTurn_hostWrite_encode hi hready.idle, houtputs, hresult, hreason, hpath, hillegal.trans hready.illegal_clear,
      hbusyErr.trans hready.busyErr_clear, haccErr.trans hready.accErr_clear⟩

/-- Settles O32; a term that is no command is refused either way. -/
theorem clearingTheOutputsFirst : Obligations.ClearingTheOutputsFirst := by
  intro i s
  refine ⟨?_, fun r hr => foldl_clearReg_sameReg_reset hr s, fun r hr => foldl_clearReg_sameReg hr s⟩
  by_cases h : WellFormed i
  · rw [exec_eq_completed h, exec_eq_completed h, completed_clearOutputs]
  · rw [exec_illFormed h, exec_illFormed h]

/-- Settles O41, by the run of the scan over the valid characters. -/
theorem b58decStopsAtTheFirstInvalidCharacter : Obligations.B58decStopsAtTheFirstInvalidCharacter := by
  refine ⟨fun c d => digit58_eq_some, fun text => valid58_iff, fun s => ⟨text_length s, fun i h => text_getElem? s h⟩, ?_⟩
  intro s before after c hL htext hbefore hc
  rw [exec_eq_completed rfl, completed, b58decDone, b58decOf, if_neg (Nat.not_lt.2 hL), decodeSteps58_invalid _ _ htext hbefore hc]
  rfl

/-- Settles O48: the residue fits the 30 bits of POLY_RES, so nothing is cut. -/
theorem polyGivesTheResidue : Obligations.PolyGivesTheResidue := by
  refine ⟨rfl, fun vs v => ?_, fun _ => rfl, fun s => ⟨symbols_length s, fun i h => symbols_getElem? s h⟩, fun s => ?_⟩
  · rw [polymod_concat, polymodStep_eq]
  · have hr : (BitVec.ofNat 30 (polymod (naturals s.symbols))).toNat = polymod (naturals s.symbols) := by
      rw [BitVec.toNat_ofNat, Nat.mod_eq_of_lt (polymod_naturals_lt _)]
    refine ⟨_, hr, ?_⟩
    have hone : BitVec.ofNat 30 (polymod (naturals s.symbols)) = 1 ↔ polymod (naturals s.symbols) = 1 := by
      rw [← BitVec.toNat_inj, hr]
      rfl
    rw [exec_eq_completed rfl, completed]
    simp only [polyDone, State.putPoly, State.complete, hone]
    by_cases h : polymod (naturals s.symbols) = 1 <;> simp [h]

/-- Settles O53, by the outcome of the regrouping. -/
theorem regrpFollowsConvertBits : Obligations.RegrpFollowsConvertBits := by
  refine ⟨fun n l i => fill_get n l i.val i.isLt, fun f t pad skip s hf hf' ht ht' => ?_⟩
  have hwf : WellFormed (.regrp f t pad skip) := by simp [WellFormed, Instr.wf, widthOk, hf, hf', ht, ht']
  rw [exec_eq_completed hwf, completed, regrpDone]
  simp only [skipFirst, regrpOf]
  cases convertBits (naturals (if skip then s.symbols.drop 1 else s.symbols)) f.toNat t.toNat pad with
  | values vs =>
    by_cases h : vs.length ≤ 256
    · simp [h, Nat.not_lt.2 h, State.putOut, State.complete, bytesOf]
    · simp [h, Nat.not_le.1 h, State.putOut, State.complete, fill_nil]
  | _ => simp [State.putOut, State.complete, fill_nil]

/-- Settles O45: each step's outcome, with the decode of a valid string in the source's terms. -/
theorem b58chkStepsInOrder : Obligations.B58chkStepsInOrder := by
  refine ⟨rfl, rfl, fun sha pay => ⟨rfl, rfl⟩, fun n s => ⟨fun h => ?_, fun hlo hhi => ⟨?_, ?_, ?_⟩⟩⟩
  · exact exec_b58chk_of_steps (b58chkOf_length Config.params n h)
  · intro before after c htext hbefore hc
    exact exec_b58chk_of_steps (b58chkOf_invalid Config.params n hlo hhi htext hbefore hc)
  · intro hvalid hmagic
    exact exec_b58chk_of_steps (b58chkOf_magic Config.params n hlo hhi (text_length_of_le (by omega)) hvalid hmagic)
  · intro hvalid hmagic
    rw [exec_b58chk_of_steps (b58chkOf_checksum Config.params n hlo hhi (text_length_of_le (by omega)) hvalid hmagic)]
    simp only [checksum58Reason_eq_ok]
    rfl

end Sys2Proof.Machine

/-! PROOFS, family 20_memory: what a host read returns (R85 to R92), the checks of a host write and what it leaves unchanged (R86 to R91),
the registers no access reaches while BUSY is 1 (R91, R97), and whose turn a step is (R93, R94, R271). The facts come first; the statements
stand at the end. -/

namespace Sys2Proof.Machine

/-! ### The classes of registers -/

theorem readOnly_iff (r : Reg) : readOnly r = true ↔
    r = .id ∨ r = .reason ∨ r = .outLen ∨ r = .polyRes ∨ r = .b58Info ∨ r = .b32Info ∨ r = .wver ∨ r = .chkCalc ∨ r = .chkPay ∨
    (∃ i, r = .payload i) ∨ ∃ i, r = .out i := by
  cases r <;> simp [readOnly]

theorem locks_iff (r : Reg) : locks r = true ↔ r = .cmd ∨ r = .inLen ∨ r = .symLen ∨ (∃ i, r = .inBuf i) ∨ ∃ i, r = .sym i := by
  cases r <;> simp [locks]

theorem readableWhileBusy_iff (r : Reg) : readableWhileBusy r = true ↔ r = .id ∨ r = .ctrl ∨ r = .cmd ∨ r = .status := by
  cases r <;> simp [readableWhileBusy]

/-! ### A host read, case by case -/

section hostRead

variable {off : Offset} {s : State} {r : Reg}

theorem hostRead_unmapped (h : regAt off = none) : hostRead off s = (0, s.accessError) := by
  rw [hostRead, h]

theorem hostRead_value (hr : regAt off = some r) (h : s.busy = false ∨ readableWhileBusy r = true) :
    hostRead off s = (regValue s r, s) := by
  have hfree : (s.busy && !readableWhileBusy r) = false := by rcases h with h | h <;> simp [h]
  simp [hostRead, hr, hfree]

theorem hostRead_free (hr : regAt off = some r) (hb : s.busy = true) (h : readableWhileBusy r = false) :
    hostRead off s = (Config.busyRead s.draws, s.countDraw) := by
  simp [hostRead, hr, hb, h]

/-- A read of a mapped offset is no access error (R89). -/
theorem hostRead_accErr (hr : regAt off = some r) : (hostRead off s).2.accErr = s.accErr := by
  by_cases h : s.busy = false ∨ readableWhileBusy r = true
  · rw [hostRead_value hr h]
  · obtain ⟨hb, hread⟩ := not_or.1 h
    rw [hostRead_free hr (Bool.eq_true_of_not_eq_false hb) (Bool.eq_false_iff.2 hread), State.countDraw_accErr]

end hostRead

/-! ### The checks of a host write, case by case -/

section hostWrite

variable {off : Offset} {strb : Strobe} {v : Word} {s : State} {r : Reg}

/-- An unmapped or misaligned offset, or a partial strobe, comes before every other check (R88, R89). -/
theorem hostWrite_malformed (h : regAt off = none ∨ strb ≠ 0xF) : hostWrite off strb v s = s.accessError := by
  cases hr : regAt off with
  | none => rw [hostWrite, hr]
  | some r =>
    rw [hostWrite, hr]
    exact if_pos (h.resolve_left (by simp [hr]))

theorem hostWrite_readOnly (hr : regAt off = some r) (hro : readOnly r = true) : hostWrite off 0xF v s = s.accessError := by
  simp [hostWrite, hr, hro]

theorem hostWrite_locked (hr : regAt off = some r) (hro : readOnly r = false) (hb : s.busy = true) (hl : locks r = true) :
    hostWrite off 0xF v s = s.busyError := by
  simp [hostWrite, hr, hro, hb, hl]

end hostWrite

/-! ### The frame of a write -/

section frame

variable (s : State) {r : Reg} (h : r ≠ .status)
include h

/-- The operations that only set or clear flags of STATUS leave what every other register reads as (R86, R88, R91). -/
theorem regValue_flagOps (v : Word) :
    regValue s.accessError r = regValue s r ∧ regValue s.busyError r = regValue s r ∧ regValue (s.acknowledge v) r = regValue s r := by
  cases r with
  | status => exact absurd rfl h
  | _ => exact ⟨rfl, rfl, rfl⟩

/-- The store of a register other than CMD changes no other register but STATUS (R86). -/
theorem regValue_storeReg (v : Word) {r' : Reg} (hcmd : r' ≠ .cmd) (hne : r' ≠ r) : regValue (storeReg v s r') r = regValue s r := by
  cases r' with
  | cmd => exact absurd rfl hcmd
  | status =>
    obtain ⟨-, -, hack⟩ := regValue_flagOps s h v
    exact hack
  | inBuf i =>
    cases r with
    | inBuf j =>
      have hij : i.val ≠ j.val := fun e => hne (congrArg Reg.inBuf (Fin.ext e))
      simp [storeReg, regValue, Vector.getElem_set_ne _ _ hij]
    | _ => rfl
  | sym i =>
    cases r with
    | sym j =>
      have hij : i.val ≠ j.val := fun e => hne (congrArg Reg.sym (Fin.ext e))
      simp [storeReg, regValue, Vector.getElem_set_ne _ _ hij]
    | _ => rfl
  | ctrl =>
    cases r with
    | ctrl => exact absurd rfl hne
    | _ => rfl
  | inLen =>
    cases r with
    | inLen => exact absurd rfl hne
    | _ => rfl
  | symLen =>
    cases r with
    | symLen => exact absurd rfl hne
    | _ => rfl
  | _ => rfl

end frame

/-! ### What no access reaches while BUSY is 1 -/

/-- The fields a running command rests on: BUSY, CMD and every data register. -/
def sameLocked (t s : State) : Prop := t.busy = s.busy ∧ t.cmd = s.cmd ∧ ∀ r, sameReg t s r

theorem sameLocked.refl (s : State) : sameLocked s s := ⟨rfl, rfl, fun r => by cases r <;> rfl⟩

theorem sameLocked.trans {s t u : State} (h : sameLocked s t) (h' : sameLocked t u) : sameLocked s u := by
  obtain ⟨hbusy, hcmd, hdata⟩ := h
  obtain ⟨hbusy', hcmd', hdata'⟩ := h'
  exact ⟨hbusy.trans hbusy', hcmd.trans hcmd', fun r => (hdata r).trans (hdata' r)⟩

/-- Of the registers a write can store, only CTRL and STATUS do not lock (R87, R91). -/
theorem eq_ctrl_or_status {r : Reg} (hro : readOnly r = false) (hl : locks r = false) : r = .ctrl ∨ r = .status := by
  cases r <;> simp_all [readOnly, locks]

theorem hostAccess_sameLocked (a : Access) {s : State} (hb : s.busy = true) : sameLocked (hostAccess a s) s := by
  cases a with
  | read off =>
    obtain h | h | ⟨-, h⟩ := hostRead_state off s <;> rw [hostAccess, h] <;> exact sameLocked.refl s
  | write off strb v =>
    obtain h | h | ⟨r, -, hro, hlock, -, h⟩ := hostWrite_cases off strb v s
    · rw [hostAccess, h]
      exact sameLocked.refl s
    · rw [hostAccess, h]
      exact sameLocked.refl s
    · rw [hostAccess, h]
      obtain rfl | rfl := eq_ctrl_or_status hro (hlock hb) <;> exact sameLocked.refl s

theorem accesses_sameLocked (as : List Access) {s : State} (hb : s.busy = true) : sameLocked (accesses as s) s :=
  List.foldlRecOn (motive := fun u => sameLocked u s) as _ (sameLocked.refl s)
    fun _ hu a _ => (hostAccess_sameLocked a (hu.1.trans hb)).trans hu

/-- From the same data registers a completion leaves the same data registers: the outputs are determined, the others stay (R61). -/
theorem completed_sameReg_congr (i : Instr) {s s' : State} (h : ∀ r, sameReg s s' r) (r : DataReg) :
    sameReg (completed i s) (completed i s') r := by
  by_cases hr : r ∈ outputs i
  · obtain ⟨houtputs, -⟩ := sameCompletion_completed (i := i) fun r _ => h r
    exact houtputs r hr
  · exact ((completed_sameReg s hr).trans (h r)).trans (completed_sameReg s' hr).symm

/-! ### The statements -/

/-- Settles O28: the accesses reach no data register and not CMD, and the completion depends on nothing else. -/
theorem commandSeesItsInputsAtIssue : Obligations.CommandSeesItsInputsAtIssue := by
  intro as s t t' i hb ht ht'
  obtain ⟨-, rfl⟩ := exec_next ht
  obtain ⟨-, rfl⟩ := exec_next ht'
  obtain ⟨-, hcmd, hdata⟩ := accesses_sameLocked as hb
  obtain ⟨-, hresult, hreason, hpath⟩ := sameCompletion_completed (i := i) fun r _ => hdata r
  obtain ⟨-, hcmdDone, -⟩ := completed_sameControl i s
  obtain ⟨-, hcmdDone', -⟩ := completed_sameControl i (accesses as s)
  exact ⟨completed_sameReg_congr i hdata, hresult, hreason, hpath, (hcmdDone'.trans hcmd).trans hcmdDone.symm⟩

/-- Settles O11: an error sets a flag of STATUS only, and a store changes its own register. -/
theorem writesLeaveOtherRegisters : Obligations.WritesLeaveOtherRegisters := by
  intro off strb v s r hcmd hstatus hne
  obtain ⟨haccess, hbusy, -⟩ := regValue_flagOps s hstatus v
  obtain h | h | ⟨r', hr', -, -, -, h⟩ := hostWrite_cases off strb v s <;> rw [h]
  · exact haccess
  · exact hbusy
  · exact regValue_storeReg s hstatus v (fun e => hcmd (e ▸ hr')) fun e => hne (e ▸ hr')

/-- Settles O6, by the cases of a host read. -/
theorem readReturnsTheRegister : Obligations.ReadReturnsTheRegister := by
  refine fun off s => ⟨hostRead_unmapped, fun r hr => ⟨fun h => ?_, fun ⟨hb, hbusy⟩ => ?_⟩⟩
  · exact hostRead_value hr (h.imp_right (readableWhileBusy_iff r).2)
  · have hread : readableWhileBusy r = false := by
      rw [Bool.eq_false_iff, Ne, readableWhileBusy_iff]
      tauto
    exact hostRead_free hr hb hread

/-- Settles O9: each check of a write in its turn, the store behind them all. -/
theorem hostWriteChecksInOrder : Obligations.HostWriteChecksInOrder := by
  refine ⟨readOnly_iff, locks_iff, fun off strb v s => ⟨hostWrite_malformed, ?_⟩⟩
  rintro r hr rfl
  refine ⟨hostWrite_readOnly hr, hostWrite_locked hr, ?_, fun hro hlock hv => ?_, hostRead_accErr hr⟩
  · rintro rfl hb hv
    obtain rfl : off = 0x018 := eq_of_regAt hr
    exact hostWrite_symLen_outOfRange hb v hv
  · have hrange : outOfRange r v = false := by
      rw [outOfRange, Bool.and_eq_false_iff, decide_eq_false_iff_not, decide_eq_false_iff_not, Nat.not_lt]
      exact hv
    exact hostWrite_store hr hro hlock hrange

/-- Settles O20, by the head of the schedule. -/
theorem stepRunsTheLatchedCommand : Obligations.StepRunsTheLatchedCommand := by
  refine fun s es => ⟨fun a => step_access, fun off strb v => step_access, fun off h => ?_, fun i hb hd => ?_, fun hb => ?_⟩
  · exact ⟨_, _, rfl, step_access h⟩
  · exact ⟨fun h => (step_engine h).trans (engineTurn_busy (s := s.setSchedule es) hb hd),
      fun h => (step_end h).trans (engineTurn_busy hb hd)⟩
  · exact ⟨fun h => (step_engine h).trans (engineTurn_idle (s := s.setSchedule es) hb),
      fun h => (step_end h).trans (engineTurn_idle hb)⟩

end Sys2Proof.Machine

/-! PROOFS, family 30_encoding: the fields of a command word and the rows of the table (R111 to R117), the decoder and the encoder (R117,
R121), the reserved space (R120), and the word put before the engine (R110, R270). The facts come first; the statements stand at the end. -/

namespace Sys2Proof

/-! ### Fields and words -/

theorem fieldsOf_injective : Function.Injective fieldsOf := Function.LeftInverse.injective wordOf_fieldsOf

/-- The fields of a masked word are the masked fields (R111, R117). -/
theorem fieldsOf_and (w v : Word) :
    fieldsOf (w &&& v) =
      { op := (fieldsOf w).op &&& (fieldsOf v).op, n := (fieldsOf w).n && (fieldsOf v).n, z1 := (fieldsOf w).z1 &&& (fieldsOf v).z1,
        f := (fieldsOf w).f &&& (fieldsOf v).f, t := (fieldsOf w).t &&& (fieldsOf v).t, p := (fieldsOf w).p && (fieldsOf v).p,
        s := (fieldsOf w).s && (fieldsOf v).s, z2 := (fieldsOf w).z2 &&& (fieldsOf v).z2 } := by
  simp [fieldsOf, BitVec.extractLsb'_and]

theorem networkOf_eq_iff {b : Bool} {n : Network} : networkOf b = n ↔ n = if b then .testnet else .mainnet := by
  cases b <;> exact eq_comm

theorem widthOk_iff {w : BitVec 4} : widthOk w = true ↔ 1 ≤ w.toNat ∧ w.toNat ≤ 8 := by
  simp [widthOk]

/-! ### The rows of the table -/

theorem mem_opcodes (o : Opcode) : o ∈ opcodes := by
  cases o <;> decide

/-- No two rows have the same OP value (R117). -/
theorem opByte_injective : Function.Injective opByte := fun o o' h =>
  List.inj_on_of_nodup_map (f := opByte) (l := opcodes) (by decide) (mem_opcodes o) (mem_opcodes o') h

/-- The rows with field N (R116). -/
def usesNetwork (o : Opcode) : Bool := decide (o = .b58chk ∨ o = .segwit ∨ o = .validate)

/-- The fields a row's mask covers: all but those the row uses (R117). -/
def maskFields (o : Opcode) : Fields :=
  { op := .allOnes 8, n := !usesNetwork o, z1 := .allOnes 3, f := if o = .regrp then 0 else .allOnes 4,
    t := if o = .regrp then 0 else .allOnes 4, p := decide (o ≠ .regrp), s := decide (o ≠ .regrp), z2 := .allOnes 10 }

theorem fieldsOf_matchWord (o : Opcode) : fieldsOf (matchWord o) = plainFields o := by
  cases o <;> decide

theorem fieldsOf_maskWord (o : Opcode) : fieldsOf (maskWord o) = maskFields o := by
  cases o <;> decide

/-- `x` is a word of the row `o` (R116, R117): OP is the row's, and each field the row does not use is 0. -/
structure Fields.InRow (x : Fields) (o : Opcode) : Prop where
  op : x.op = opByte o
  z1 : x.z1 = 0
  z2 : x.z2 = 0
  network : x.n = true → usesNetwork o = true
  regroup : o ≠ .regrp → x.f = 0 ∧ x.t = 0 ∧ x.p = false ∧ x.s = false

theorem Fields.inRow_iff {x : Fields} {o : Opcode} : x.InRow o ↔ x.op = opByte o ∧ x.z1 = 0 ∧ x.z2 = 0 ∧
    (x.n = true → usesNetwork o = true) ∧ (o ≠ .regrp → x.f = 0 ∧ x.t = 0 ∧ x.p = false ∧ x.s = false) :=
  ⟨fun h => ⟨h.op, h.z1, h.z2, h.network, h.regroup⟩, fun ⟨hop, hz1, hz2, hn, hregroup⟩ => ⟨hop, hz1, hz2, hn, hregroup⟩⟩

/-- The comparison of a masked word with the match word checks OP and the fields the row does not use (R117). -/
theorem and_maskWord_eq_matchWord_iff {w : Word} {o : Opcode} : w &&& maskWord o = matchWord o ↔ (fieldsOf w).InRow o := by
  rw [← fieldsOf_injective.eq_iff, fieldsOf_and, fieldsOf_matchWord, fieldsOf_maskWord]
  generalize fieldsOf w = x
  have hnetwork : (x.n && !usesNetwork o) = false ↔ (x.n = true → usesNetwork o = true) := by
    cases x.n <;> simp
  simp only [maskFields, plainFields, Fields.mk.injEq, Fields.inRow_iff, hnetwork, BitVec.and_allOnes]
  by_cases ho : o = .regrp
  · have hunused : ∀ v : BitVec 4, v &&& 0 = 0 := fun _ => BitVec.and_zero
    simp only [ho, if_true, hunused, ne_eq, not_true_eq_false, decide_false, Bool.and_false, false_imp_iff]
    tauto
  · simp only [ho, if_false, BitVec.and_allOnes, ne_eq, not_false_eq_true, decide_true, Bool.and_true, true_imp_iff]
    tauto

/-- A word matches one row at most, because the OP values differ (R117). -/
theorem Fields.InRow.unique {x : Fields} {o o' : Opcode} (h : x.InRow o) (h' : x.InRow o') : o = o' :=
  opByte_injective (h.op.symm.trans h'.op)

/-! ### The decoder and the encoder -/

theorem find?_rowMatches_iff {w : Word} {o : Opcode} : opcodes.find? (rowMatches w) = some o ↔ (fieldsOf w).InRow o := by
  have hrow : ∀ o, rowMatches w o = true ↔ (fieldsOf w).InRow o := fun o => by
    rw [rowMatches, beq_iff_eq, and_maskWord_eq_matchWord_iff]
  refine ⟨fun h => (hrow o).1 (List.find?_some h), fun h => ?_⟩
  obtain ⟨o', ho'⟩ := Option.isSome_iff_exists.1 (List.find?_isSome.2 ⟨o, mem_opcodes o, (hrow o).2 h⟩)
  rw [ho', ((hrow o').1 (List.find?_some ho')).unique h]

/-- The row a command belongs to (R116). -/
def opcodeOf : Instr → Opcode
  | .clr => .clr
  | .b58dec => .b58dec
  | .b58chk _ => .b58chk
  | .poly => .poly
  | .hrpx => .hrpx
  | .b32dec => .b32dec
  | .regrp _ _ _ _ => .regrp
  | .segwit _ => .segwit
  | .validate _ => .validate

@[simp] theorem opcodeOf_build (x : Fields) (o : Opcode) : opcodeOf (build x o) = o := by
  cases o <;> rfl

theorem wellFormed_regrp_iff {f t : BitVec 4} {pad skip : Bool} :
    WellFormed (.regrp f t pad skip) ↔ 1 ≤ f.toNat ∧ f.toNat ≤ 8 ∧ 1 ≤ t.toNat ∧ t.toNat ≤ 8 := by
  simp [WellFormed, Instr.wf, widthOk_iff, and_assoc]

theorem wellFormed_build_iff {x : Fields} {o : Opcode} :
    WellFormed (build x o) ↔ (o = .regrp → 1 ≤ x.f.toNat ∧ x.f.toNat ≤ 8 ∧ 1 ≤ x.t.toNat ∧ x.t.toNat ≤ 8) := by
  cases o with
  | regrp => simp [build, wellFormed_regrp_iff]
  | _ => simp [WellFormed, build, Instr.wf]

/-- The decoder's answer: the command that the word's row and fields give (R117). -/
theorem decode_eq_ok_iff {w : Word} {i : Instr} :
    decode w = .ok i ↔ (fieldsOf w).InRow (opcodeOf i) ∧ build (fieldsOf w) (opcodeOf i) = i ∧ WellFormed i := by
  rw [decode, ← find?_rowMatches_iff]
  cases hfind : opcodes.find? (rowMatches w) with
  | none => simp
  | some o =>
    simp only [Option.some.injEq]
    constructor
    · intro h
      split at h
      next hwf =>
        obtain rfl := Except.ok.inj h
        rw [opcodeOf_build]
        exact ⟨rfl, rfl, hwf⟩
      next => cases h
    · rintro ⟨rfl, hbuild, hwf⟩
      rw [hbuild, if_pos hwf]

/-- A command's words are those of its row with the operands in its fields (R117). -/
theorem decode_eq_ok_iff_row {w : Word} {i : Instr} : decode w = .ok i ↔
    w &&& maskWord (opcodeOf i) = matchWord (opcodeOf i) ∧ build (fieldsOf w) (opcodeOf i) = i ∧ WellFormed i := by
  rw [decode_eq_ok_iff, and_maskWord_eq_matchWord_iff]

/-- A command without operands has one word (R117). -/
theorem decode_plain_iff {w : Word} {i : Instr} (hmask : maskWord (opcodeOf i) = .allOnes 32) (hbuild : ∀ x, build x (opcodeOf i) = i)
    (hwf : WellFormed i) : decode w = .ok i ↔ w = matchWord (opcodeOf i) := by
  rw [decode_eq_ok_iff_row, hmask, BitVec.and_allOnes]
  exact and_iff_left ⟨hbuild _, hwf⟩

/-- The words of a command with field N: its row, and the network that bit 8 names (R113, R117). -/
theorem decode_network_iff {w : Word} {command : Network → Instr} {o : Opcode} (hop : ∀ n, opcodeOf (command n) = o)
    (hbuild : ∀ x, build x o = command (networkOf x.n)) (hinj : Function.Injective command) (hwf : ∀ n, WellFormed (command n))
    (n : Network) :
    decode w = .ok (command n) ↔ w &&& maskWord o = matchWord o ∧ n = if w.getLsbD 8 then .testnet else .mainnet := by
  rw [decode_eq_ok_iff_row, hop, hbuild, hinj.eq_iff, networkOf_eq_iff]
  exact and_congr_right' (and_iff_left (hwf n))

theorem legal_iff {w : Word} : legal w = true ↔ ∃ o, (fieldsOf w).InRow o ∧ WellFormed (build (fieldsOf w) o) := by
  have hok : legal w = true ↔ ∃ i, decode w = .ok i := by
    rw [legal]
    cases decode w <;> simp [Except.isOk, Except.toBool]
  simp only [hok, decode_eq_ok_iff]
  constructor
  · rintro ⟨i, hrow, hbuild, hwf⟩
    exact ⟨opcodeOf i, hrow, hbuild.symm ▸ hwf⟩
  · rintro ⟨o, hrow, hwf⟩
    refine ⟨build (fieldsOf w) o, ?_⟩
    rw [opcodeOf_build]
    exact ⟨hrow, rfl, hwf⟩

/-- The encoder fills the fields a row uses, and the others of its words are 0 (R116, R120). -/
theorem encodeFields_build {x : Fields} {o : Opcode} (h : x.InRow o) : encodeFields (build x o) = x := by
  obtain ⟨op, n, z1, f, t, p, s, z2⟩ := x
  obtain ⟨hop, hz1, hz2, hn, hregroup⟩ := h
  dsimp only at hop hz1 hz2 hn hregroup
  subst hop hz1 hz2
  have hnetwork : usesNetwork o = false → n = false := fun h => by simpa [h] using hn
  cases o with
  | regrp =>
    obtain rfl := hnetwork rfl
    rfl
  | b58chk | segwit | validate =>
    obtain ⟨rfl, rfl, rfl, rfl⟩ := hregroup (by decide)
    simp [build, encodeFields, plainFields]
  | clr | b58dec | poly | hrpx | b32dec =>
    obtain rfl := hnetwork rfl
    obtain ⟨rfl, rfl, rfl, rfl⟩ := hregroup (by decide)
    rfl

theorem encode_of_decode {w : Word} {i : Instr} (h : decode w = .ok i) : encode i = w := by
  obtain ⟨hrow, hbuild, -⟩ := decode_eq_ok_iff.1 h
  rw [encode, ← hbuild, encodeFields_build hrow, wordOf_fieldsOf]

/-- The decoder inverts the encoder on the commands, and answers nothing else (R121). -/
theorem decode_eq_ok_iff_encode {w : Word} {i : Instr} : decode w = .ok i ↔ WellFormed i ∧ encode i = w := by
  constructor
  · intro h
    obtain ⟨-, -, hwf⟩ := decode_eq_ok_iff.1 h
    exact ⟨hwf, encode_of_decode h⟩
  · rintro ⟨hwf, rfl⟩
    exact Machine.decode_encode hwf

/-! ### The reserved space -/

/-- A word whose OP is listed can only be a command of that row (R116). -/
theorem legal_iff_of_op {w : Word} {o : Opcode} (hop : opByte o = (fieldsOf w).op) :
    legal w = true ↔ (fieldsOf w).InRow o ∧ WellFormed (build (fieldsOf w) o) := by
  rw [legal_iff]
  constructor
  · rintro ⟨o', hrow, hwf⟩
    obtain rfl := opByte_injective (hop.trans hrow.op)
    exact ⟨hrow, hwf⟩
  · exact fun h => ⟨o, h⟩

/-- The ways in which a word with a listed OP is illegal (R120). -/
theorem illegal_iff_of_op {w : Word} {o : Opcode} (hop : opByte o = (fieldsOf w).op) :
    legal w = false ↔ (fieldsOf w).z1 ≠ 0 ∨ (fieldsOf w).z2 ≠ 0 ∨ ((fieldsOf w).n = true ∧ usesNetwork o = false) ∨
      (((fieldsOf w).f ≠ 0 ∨ (fieldsOf w).t ≠ 0 ∨ (fieldsOf w).p = true ∨ (fieldsOf w).s = true) ∧ o ≠ .regrp) ∨
      (o = .regrp ∧ ¬ (1 ≤ (fieldsOf w).f.toNat ∧ (fieldsOf w).f.toNat ≤ 8 ∧ 1 ≤ (fieldsOf w).t.toNat ∧ (fieldsOf w).t.toNat ≤ 8)) := by
  simp only [← Bool.not_eq_true, legal_iff_of_op hop, Fields.inRow_iff, wellFormed_build_iff]
  tauto

theorem illegal_of_reserved_op {w : Word} (h : ∀ o, opByte o ≠ (fieldsOf w).op) : legal w = false := by
  rw [← Bool.not_eq_true, legal_iff]
  exact fun ⟨o, hrow, _⟩ => h o hrow.op.symm

end Sys2Proof

namespace Sys2Proof.Machine

/-! ### The statements -/

/-- Settles O1: a decoded word is its row's word with the fields it holds, and the encoder writes those fields back. -/
theorem decodeAndEncodeAgree : Obligations.DecodeAndEncodeAgree := fun _ _ => decode_eq_ok_iff_encode

/-- Settles O2: the decoder answers the command of the one row that the word matches. -/
theorem legalWordsMatchExactlyOneRow : Obligations.LegalWordsMatchExactlyOneRow := by
  refine ⟨fun o => by cases o <;> rfl, fun w => ?_⟩
  refine ⟨decode_plain_iff rfl (fun _ => rfl) rfl, decode_plain_iff rfl (fun _ => rfl) rfl, decode_plain_iff rfl (fun _ => rfl) rfl,
    decode_plain_iff rfl (fun _ => rfl) rfl, decode_plain_iff rfl (fun _ => rfl) rfl, fun n => ⟨?_, ?_, ?_⟩, fun f t pad skip => ?_, ?_,
    fun o o' h h' => ?_⟩
  · exact decode_network_iff (command := .b58chk) (fun _ => rfl) (fun _ => rfl) (fun _ _ => Instr.b58chk.inj) (fun _ => rfl) n
  · exact decode_network_iff (command := .segwit) (fun _ => rfl) (fun _ => rfl) (fun _ _ => Instr.segwit.inj) (fun _ => rfl) n
  · exact decode_network_iff (command := .validate) (fun _ => rfl) (fun _ => rfl) (fun _ _ => Instr.validate.inj) (fun _ => rfl) n
  · rw [decode_eq_ok_iff_row, wellFormed_regrp_iff]
    simp [opcodeOf, build, maskWord, matchWord, fieldsOf, and_assoc, eq_comm]
  · simp only [legal_iff, and_maskWord_eq_matchWord_iff, wellFormed_build_iff]
  · exact (and_maskWord_eq_matchWord_iff.1 h).unique (and_maskWord_eq_matchWord_iff.1 h')

/-- Settles O3, by whether the word's OP is that of some row. -/
theorem reservedSpaceIsIllegal : Obligations.ReservedSpaceIsIllegal := by
  refine ⟨rfl, fun w => ⟨rfl, ?_⟩⟩
  by_cases hreserved : ∀ o, opByte o ≠ (fieldsOf w).op
  · exact iff_of_true (illegal_of_reserved_op hreserved) (.inl hreserved)
  · obtain ⟨o, hop⟩ : ∃ o, opByte o = (fieldsOf w).op := by simpa using hreserved
    have hopcode : ∀ o', (fieldsOf w).op = opByte o' ↔ o = o' := fun o' => by rw [← hop, opByte_injective.eq_iff]
    have hb58chk : (fieldsOf w).op = 0x11 ↔ o = .b58chk := hopcode .b58chk
    have hsegwit : (fieldsOf w).op = 0x24 ↔ o = .segwit := hopcode .segwit
    have hvalidate : (fieldsOf w).op = 0x30 ↔ o = .validate := hopcode .validate
    have hregrp : (fieldsOf w).op = 0x23 ↔ o = .regrp := hopcode .regrp
    rw [illegal_iff_of_op hop]
    simp only [hreserved, false_or, ne_eq, hb58chk, hsegwit, hvalidate, hregrp, usesNetwork, decide_eq_false_iff_not, not_or]

/-- Settles O21: a command's word is legal, so it stands latched with the engine to move, which decodes it. -/
theorem fetchedWordRunsNext : Obligations.FetchedWordRunsNext := by
  intro s i hwf
  have hword : BitVec.ofNat 32 ((encode i).toNat % 2 ^ 32) = encode i := by
    rw [Nat.mod_eq_of_lt (encode i).isLt, BitVec.ofNat_toNat, BitVec.setWidth_eq]
  refine ⟨?_, ?_⟩
  · rw [decodeTableWord, if_pos le_rfl, hword, decode_encode hwf]
  · rw [State.withFetchWord, hword, State.present, if_pos (legal_encode hwf), step_engine rfl]
    exact engineTurn_busy rfl (decode_encode hwf)

/-- Settles O4: each word is the encoding of its command. -/
theorem commonWordsDecode : Obligations.CommonWordsDecode := by
  simp only [Obligations.CommonWordsDecode, decode_eq_ok_iff_encode]
  decide

/-- Settles O34: the term is not well formed. -/
theorem illegalWidthIsRefused : Obligations.IllegalWidthIsRefused :=
  fun _ _ _ _ s h => exec_illFormed (mt wellFormed_regrp_iff.1 h) s

end Sys2Proof.Machine

/-! PROOFS, family 40_base58: strings of more than 90 characters (R149, R344), the decode of a valid string (R141 to R146, R148), the
round trip through the reference encoder (R147, R150, R151), and the magnitude bounds (R152). The facts come first; the statements stand
at the end. -/

namespace Sys2Proof.Machine

/-! ### Strings of more than 90 characters -/

section longString

variable {L : Nat} (h : 90 < L) (text : List Byte)
include h

theorem b58decOf_long (zd : ZeroDigit) : b58decOf zd L text = cleared58 .inTooLong := if_pos h

theorem b58chkOf_long (p : Params) (n : Network) : (b58chkOf p n L text).reason = .b58Len := by
  rw [b58chkOf_length p n (.inr (by omega))]

theorem decode32_long (ok : Bool) : decode32 ok L text = cleared32 .b32Len := if_pos h

theorem segwitOf_long (ok : Bool) (n : Network) : (segwitOf ok n L text).reason = .b32Len := by
  rw [segwitOf, decode32_long h]
  rfl

end longString

theorem hrpxDone_long {s : State} (h : 90 < s.inLen.toNat) : hrpxDone s = (s.putSymbols []).complete false .inTooLong := if_pos h

/-- VALIDATE fails with the code of the path that its dispatch takes (R250, R252). -/
theorem validateDone_reason (p : Params) (n : Network) (s : State) :
    (validateDone p n s).reason =
      if startsWithHrp n s then (segwitOf p.emptyHrpOk n s.inLen.toNat s.text).reason
      else (b58chkOf p n s.inLen.toNat s.text).reason := by
  simp only [← takesBech32_iff]
  unfold validateDone
  split <;> rfl

/-! ### The value of a string and of a byte sequence -/

theorem value58_lt (l : List Byte) : value58 l < 58 ^ l.length := by
  induction l using List.reverseRecOn with
  | nil => decide
  | append_singleton l c ih =>
    have hdigit : (digit58 c).getD 0 < 58 := by
      cases hc : digit58 c with
      | none => decide
      | some d => exact digit58_lt hc
    rw [value58_concat, List.length_append, List.length_singleton, pow_succ]
    omega

theorem value58_lt_of_length_le {l : List Byte} {k : Nat} (h : l.length ≤ k) : value58 l < 58 ^ k :=
  (value58_lt l).trans_le (Nat.pow_le_pow_right (by decide) h)

/-- The library's digits of a number stand least significant first. -/
theorem bytesValue_eq_ofDigits (b : List Byte) : bytesValue b = Nat.ofDigits 256 (b.reverse.map BitVec.toNat) := by
  induction b using List.reverseRecOn with
  | nil => rfl
  | append_singleton b x ih =>
    rw [bytesValue_concat, ih, List.reverse_concat, List.map_cons, Nat.ofDigits_cons]
    ring

theorem digit256_lt {b : List Byte} {d : Nat} (h : d ∈ b.reverse.map BitVec.toNat) : d < 256 := by
  obtain ⟨x, -, rfl⟩ := List.mem_map.1 h
  exact x.isLt

theorem bytesValue_lt (b : List Byte) : bytesValue b < 256 ^ b.length := by
  rw [bytesValue_eq_ofDigits]
  simpa using Nat.ofDigits_lt_base_pow_length (by decide) fun _ => digit256_lt (b := b)

/-- A number has one byte sequence of each length. -/
theorem bytesValue_inj {b b' : List Byte} (hlen : b.length = b'.length) (h : bytesValue b = bytesValue b') : b = b' := by
  rw [bytesValue_eq_ofDigits, bytesValue_eq_ofDigits] at h
  have hmap := Nat.ofDigits_inj_of_len_eq (by decide) (by simpa using hlen) (fun _ => digit256_lt) (fun _ => digit256_lt) h
  have hinj : Function.Injective (BitVec.toNat : Byte → Nat) := fun _ _ => BitVec.eq_of_toNat_eq
  exact List.reverse_injective (hinj.list_map hmap)

/-- Leading zero bytes add nothing to the value, so it fits the bytes after them (R152). -/
theorem bytesValue_lt_of_leadingCount (b : List Byte) : bytesValue b < 256 ^ (b.length - leadingCount 0x00 b) := by
  induction b with
  | nil => decide
  | cons x xs ih =>
    by_cases hx : x = 0x00
    · subst hx
      simpa [bytesValue, leadingCount] using ih
    · have hnone : leadingCount 0x00 (x :: xs) = 0 := by simpa [leadingCount, List.takeWhile_cons] using hx
      rw [hnone]
      exact bytesValue_lt (x :: xs)

/-! ### The digits of the reference encoder -/

theorem valid58_replicate_one (n : Nat) : valid58 (List.replicate n 0x31) = true :=
  valid58_iff.2 fun c hc => by rw [List.eq_of_mem_replicate hc]; decide

theorem valid58_digits58 (fuel m : Nat) {ds : List Byte} (h : valid58 ds = true) : valid58 (digits58 fuel m ds) = true := by
  induction fuel generalizing m ds with
  | zero => exact h
  | succ k ih =>
    rw [digits58]
    split
    · exact h
    · exact ih _ (valid58_cons.2 ⟨⟨_, digit58_alpha58 (Nat.mod_lt m (by decide))⟩, h⟩)

theorem digits58_zero (fuel : Nat) (ds : List Byte) : digits58 fuel 0 ds = ds := by cases fuel <;> rfl

/-- The first digit the loop writes is not the digit 0, whose character is '1' (R147). -/
theorem digits58_head {fuel m : Nat} (h : m < 58 ^ fuel) (hm : m ≠ 0) (ds : List Byte) :
    ∃ c rest, digits58 fuel m ds = c :: rest ∧ c ≠ 0x31 := by
  induction fuel generalizing m ds with
  | zero => exact absurd (by simpa using h) hm
  | succ k ih =>
    rw [digits58, if_neg hm]
    by_cases hlast : m / 58 = 0
    · have hlt : m < 58 := by omega
      rw [hlast, digits58_zero, Nat.mod_eq_of_lt hlt]
      refine ⟨_, _, rfl, fun h31 => hm ?_⟩
      have hdigit := digit58_alpha58 hlt
      rw [h31] at hdigit
      exact (Option.some.inj hdigit).symm
    · exact ih (by rw [pow_succ] at h; omega) hlast _

/-- A number below `58 ^ k` has at most `k` digits, whatever the fuel. -/
theorem digits58_length_le (fuel : Nat) {m k : Nat} (h : m < 58 ^ k) (ds : List Byte) :
    (digits58 fuel m ds).length ≤ k + ds.length := by
  induction fuel generalizing m k ds with
  | zero => exact Nat.le_add_left _ _
  | succ fuel ih =>
    rw [digits58]
    split
    · exact Nat.le_add_left _ _
    · cases k with
      | zero => omega
      | succ k =>
        have hrest := ih (m := m / 58) (k := k) (by rw [pow_succ] at h; omega) (alpha58 (m % 58) :: ds)
        rw [List.length_cons] at hrest
        omega

/-- The fuel of `Base58Encode` is enough for its bytes: two digits hold more than a byte (R147). -/
theorem bytesValue_lt_fuel (b : List Byte) : bytesValue b < 58 ^ (2 * b.length) := by
  rw [Nat.pow_mul]
  exact (bytesValue_lt b).trans_le (Nat.pow_le_pow_left (by decide) _)

theorem valid58_base58Encode (zd : ZeroDigit) (b : List Byte) : valid58 (base58Encode zd b) = true := by
  unfold base58Encode
  refine valid58_append.2 ⟨valid58_replicate_one _, ?_⟩
  split
  · exact valid58_replicate_one 1
  · exact valid58_digits58 _ _ rfl

/-- Up to 25 bytes need at most ten base58 digits more than there are bytes (R152). -/
theorem pow_256_le_pow_58 {j : Nat} (h : j ≤ 25) : 256 ^ j ≤ 58 ^ (j + 10) := by
  interval_cases j <;> norm_num

/-- The encoding of 25 bytes has at most 35 characters (R151). -/
theorem base58Encode_length_le (zd : ZeroDigit) {b : List Byte} (h : b.length = 25) : (base58Encode zd b).length ≤ 35 := by
  have hle : leadingCount 0x00 b ≤ b.length := (List.takeWhile_sublist _).length_le
  by_cases hzero : bytesValue b = 0
  · rw [base58Encode_of_zero zd hzero (by omega), List.length_replicate]
    split <;> omega
  · have hlt := (bytesValue_lt_of_leadingCount b).trans_le (pow_256_le_pow_58 (by omega))
    have hdigits := digits58_length_le (2 * b.length) hlt []
    rw [base58Encode_of_ne_zero zd hzero, List.length_append, List.length_replicate]
    rw [List.length_nil] at hdigits
    omega

/-- The source's payload of an encoding is the 25 bytes that were encoded (R151). -/
theorem refPayload_base58Encode (zd : ZeroDigit) (b : Vector Byte 25) : refPayload (base58Encode zd b.toList) = b := by
  have hvalue : bytesValue b.toList < 2 ^ 200 := by simpa using bytesValue_lt b.toList
  rw [← Vector.toList_inj]
  refine bytesValue_inj (by simp) ?_
  rw [bytesValue_refPayload, value58_base58Encode zd (bytesValue_lt_fuel _), Nat.mod_eq_of_lt hvalue]

/-! ### B58DEC of a valid string -/

theorem b58decDone_of_valid (p : Params) {s : State} (hL : s.inLen.toNat ≤ 90) (hvalid : valid58 s.text = true) :
    b58decDone p s =
      { s with
        payload := refPayload s.text, b58Info := refInfo p.zeroDigit s.text
        result := true, path := false, reason := .ok, busy := false, done := true } := by
  rw [b58decDone, b58decOf, if_neg (Nat.not_lt.2 hL), decodeSteps58_valid _ (text_length_of_le hL) hvalid]
  rfl

/-! ### The statements -/

/-- Settles O36, command by command. -/
theorem longStringsAreRejected : Obligations.LongStringsAreRejected := by
  intro s hL i t h
  obtain ⟨-, rfl⟩ := exec_next h
  refine ⟨?_, ?_, ?_, ?_, ?_, ?_⟩
  · rintro rfl
    rw [completed, b58decDone, b58decOf_long hL]
    exact ⟨rfl, rfl, rfl⟩
  · rintro rfl
    rw [completed, hrpxDone_long hL]
    exact ⟨rfl, rfl⟩
  · rintro n rfl
    exact b58chkOf_long hL s.text Config.params n
  · rintro rfl
    rw [completed, b32decDone, decode32_long hL]
    rfl
  · rintro n rfl
    exact segwitOf_long hL s.text Config.params.emptyHrpOk n
  · rintro n rfl
    rw [completed, validateDone_reason, b58chkOf_long hL, segwitOf_long hL]
    exact ⟨fun h => if_pos h, fun h => if_neg h⟩

/-- Settles O39, from the run of the scan over a valid string. -/
theorem accumulatorTracksTheValue : Obligations.AccumulatorTracksTheValue :=
  ⟨rfl, fun text c _ h => by rw [value58_concat, h, Option.getD_some], fun _ => scan58_of_valid⟩

/-- Settles O40: the completion runs to the end of the string and leaves the source's payload and flags. -/
theorem b58decDecodesValidStrings : Obligations.B58decDecodesValidStrings :=
  ⟨fun _ => rfl, fun _ => rfl, fun s hL hvalid =>
    (exec_eq_completed rfl s).trans (congrArg Host.Outcome.next (b58decDone_of_valid Config.params hL hvalid))⟩

/-- Settles O42: the encoder's digits are the one numeral of the value, and the flags compare the string with it. -/
theorem canonIsTheRoundTripTest : Obligations.CanonIsTheRoundTripTest := by
  refine ⟨fun zd b => ?_, fun zd text hvalid => ?_⟩
  · have hfuel := bytesValue_lt_fuel b
    by_cases hzero : bytesValue b = 0
    · refine ⟨if b ≠ [] ∧ zd = .one then [0x31] else [], ?_, by split <;> decide, fun _ => rfl, fun h => absurd hzero h⟩
      simp [base58Encode, leadingCount, hzero, digits58_zero, List.length_pos_iff]
    · have hvalue : value58 (digits58 (2 * b.length) (bytesValue b) []) = bytesValue b := by simpa using value58_digits58 hfuel []
      exact ⟨_, base58Encode_of_ne_zero zd hzero, valid58_digits58 _ _ rfl, fun h => absurd h hzero,
        fun _ => ⟨hvalue, digits58_head hfuel hzero []⟩⟩
  · rw [payloadOf_value, canon_eq_roundTrip zd hvalid, decide_eq_true_iff]

/-- Settles O43: the encoding is a valid string of the bytes' value, which fits 25 bytes, so its payload is the bytes and it is their
encoding. -/
theorem decodingAnEncodingGivesTheBytesBack : Obligations.DecodingAnEncodingGivesTheBytesBack := by
  intro p b
  have hshort := base58Encode_length_le p.zeroDigit (b := b.toList) Vector.length_toList
  refine ⟨hshort, fun s htext hL => ⟨exec_eq_completed rfl s, ?_⟩⟩
  have hpayload := refPayload_base58Encode p.zeroDigit b
  have hvalue : value58 (base58Encode p.zeroDigit b.toList) < 2 ^ 200 := by
    rw [value58_base58Encode p.zeroDigit (bytesValue_lt_fuel _)]
    simpa using bytesValue_lt b.toList
  rw [b58decDone_of_valid p (by rw [hL, htext]; omega) (htext ▸ valid58_base58Encode p.zeroDigit b.toList), htext]
  refine ⟨hpayload, rfl, decide_eq_false (Nat.not_le.2 hvalue), ?_, rfl⟩
  rw [refInfo, hpayload]
  exact decide_eq_true rfl

/-- Settles O44, from the bound on the value of a string; the digit loop computes the two strings. -/
theorem magnitudeBounds : Obligations.MagnitudeBounds := by
  refine ⟨by norm_num, by norm_num, fun text _ h => ?_, fun text _ h => ?_, rfl, rfl⟩
  · exact (value58_lt_of_length_le h).trans (by norm_num)
  · exact (value58_lt_of_length_le h).trans (by norm_num)

end Sys2Proof.Machine

/-! PROOFS, family 41_bech32: the checksum's range (R173), the expansion of HRPX (R174, R180), the failing checks of B32DEC (R190 to
R198) and its case invariance (R199), the regrouper (R210 to R212), SEGWIT (R220 to R224), and the source's predicates (R222, R244, R252).
The facts come first; the statements stand at the end. -/

namespace Sys2Proof.Machine

/-! ### HRPX -/

@[simp] theorem hrpExpand_length (h : List Byte) : (hrpExpand h).length = 2 * h.length + 1 := by
  simp only [hrpExpand, List.length_append, List.length_map, List.length_singleton]
  omega

/-- The expansion begins with the high bits of each character (R174). -/
theorem hrpExpand_getElem?_high {h : List Byte} {i : Nat} (hi : i < h.length) :
    (hrpExpand h)[i]? = h[i]?.map fun c : Byte => c >>> (5 : Nat) := by
  rw [hrpExpand, List.append_assoc, List.getElem?_append_left (by simpa using hi), List.getElem?_map]

theorem hrpExpand_getElem?_separator (h : List Byte) : (hrpExpand h)[h.length]? = some 0 := by
  simp [hrpExpand]

/-- The expansion ends with the low bits of each character (R174). -/
theorem hrpExpand_getElem?_low (h : List Byte) (i : Nat) :
    (hrpExpand h)[h.length + 1 + i]? = h[i]?.map fun c : Byte => c &&& 31 := by
  rw [hrpExpand, List.getElem?_append_right (by simp [Nat.add_assoc]), List.getElem?_map]
  simp

/-- A filled buffer read as a list (R53). -/
theorem fill_toList_getD {n i : Nat} (l : List Byte) (hi : i < n) : (fill n l).toList.getD i 0 = l[i]?.getD 0 := by
  simp [List.getD_eq_getElem?_getD, hi]

/-! ### The failing checks of B32DEC -/

section failing

variable {ok : Bool} {L : Nat} {text : List Byte}

theorem decode32_charRange (hL : L ≤ 90) (h : text.any outside32 = true) : decode32 ok L text = cleared32 .b32CharRange := by
  rw [decode32, if_neg (Nat.not_lt.2 hL), if_pos h]

variable (hL : L ≤ 90) (hrange : text.any outside32 = false)
include hL hrange

theorem decode32_mixedCase (h : mixedCase text = true) : decode32 ok L text = cleared32 .b32MixedCase := by
  rw [decode32, if_neg (Nat.not_lt.2 hL), if_neg (Bool.eq_false_iff.1 hrange), if_pos h]

theorem decode32_noSep (hcase : mixedCase text = false) (h : 0x31 ∉ text) : decode32 ok L text = cleared32 .b32NoSep := by
  have hnone : lastOne (text.map fold) = none := lastOne_eq_none fun hm => by
    obtain ⟨c, hc, heq⟩ := List.mem_map.1 hm
    exact h ((fold_eq_one c).1 heq ▸ hc)
  rw [decode32, if_neg (Nat.not_lt.2 hL), if_neg (Bool.eq_false_iff.1 hrange), if_neg (Bool.eq_false_iff.1 hcase), hnone]

end failing

section separated

variable {ok : Bool} {L : Nat} {lc : List Byte} {pos : Nat}

theorem separatedSteps_emptyHrp (L : Nat) (lc : List Byte) :
    separatedSteps false L lc 0 = { cleared32 .b32EmptyHrp with info := infoFound 0 (L - 1) } := by
  simp [separatedSteps]

variable (hhrp : pos ≠ 0 ∨ ok = true)
include hhrp

theorem separatedSteps_shortData (h : L - pos - 1 < 6) :
    separatedSteps ok L lc pos = { cleared32 .b32ShortData with info := infoFound pos (L - pos - 1) } := by
  have hempty : ¬ (pos = 0 ∧ ok = false) := by simpa [imp_iff_not_or] using hhrp
  rw [separatedSteps, if_neg hempty, if_pos h]

theorem separatedSteps_charset (hlen : 6 ≤ L - pos - 1) (h : symbolsOf (lc.drop (pos + 1)) = none) :
    separatedSteps ok L lc pos = { cleared32 .b32Charset with info := infoFound pos (L - pos - 1) } := by
  have hempty : ¬ (pos = 0 ∧ ok = false) := by simpa [imp_iff_not_or] using hhrp
  rw [separatedSteps, if_neg hempty, if_neg (Nat.not_lt.2 hlen), h]

end separated

theorem checksumSteps_fail (info : B32Info) {hrp data : List Byte} (h : verifyChecksum hrp data = false) :
    checksumSteps info hrp data =
      { cleared32 .b32Checksum with info := info, polyRes := BitVec.ofNat 30 (polymod (naturals (hrpExpand hrp ++ data))) } := by
  rw [checksumSteps, if_pos (mt (verifyChecksum_iff hrp data).2 (Bool.eq_false_iff.1 h))]

/-- The completion of a B32DEC whose decode failed (R197, R272). -/
theorem b32decDone_failed {p : Params} {s : State} {info : B32Info} {residue : BitVec 30} {code : Reason} (hcode : code ≠ .ok)
    (h : decode32 p.emptyHrpOk s.inLen.toNat s.text = { cleared32 code with info := info, polyRes := residue }) :
    b32decDone p s = failed32 s info residue code := by
  rw [b32decDone_of_decode32 h]
  simp [failed32, cleared32, fill_nil, hcode]

/-- The lengths of a string cut at a '1' (R192). -/
theorem cut_length (hrp dat : List Byte) : (hrp ++ 0x31 :: dat).length = hrp.length + 1 + dat.length := by
  simp [Nat.add_assoc, Nat.add_comm 1]

section cut

variable {ok : Bool} {L : Nat} {hrp dat : List Byte}
variable (hlen : L = hrp.length + 1 + dat.length) (hL : L ≤ 90) (hdat : 0x31 ∉ dat)
variable (hrange : (hrp ++ 0x31 :: dat).any outside32 = false) (hcase : mixedCase (hrp ++ 0x31 :: dat) = false)
include hlen hL hdat hrange hcase

/-- A string cut at its last '1' whose HRP is empty, where that is not allowed (R193). -/
theorem decode32_emptyHrp (hhrp : hrp = []) (hok : ok = false) :
    decode32 ok L (hrp ++ 0x31 :: dat) = { cleared32 .b32EmptyHrp with info := infoFound hrp.length dat.length } := by
  subst hhrp hok
  have hd : L - 1 = dat.length := by rw [List.length_nil] at hlen; omega
  rw [decode32_separated hL hdat hrange hcase, List.length_nil, separatedSteps_emptyHrp, hd]

variable (hhrp : hrp ≠ [] ∨ ok = true)
include hhrp

theorem decode32_shortData (hsix : dat.length < 6) :
    decode32 ok L (hrp ++ 0x31 :: dat) = { cleared32 .b32ShortData with info := infoFound hrp.length dat.length } := by
  have hd : L - hrp.length - 1 = dat.length := by omega
  rw [decode32_separated hL hdat hrange hcase, separatedSteps_shortData (by simpa using hhrp) (hd ▸ hsix), hd]

variable (hsix : 6 ≤ dat.length)
include hsix

theorem decode32_charset (h : ∃ c ∈ dat, charset5 (fold c) = none) :
    decode32 ok L (hrp ++ 0x31 :: dat) = { cleared32 .b32Charset with info := infoFound hrp.length dat.length } := by
  have hd : L - hrp.length - 1 = dat.length := by omega
  have hdrop : ((hrp ++ 0x31 :: dat).map fold).drop (hrp.length + 1) = dat.map fold := by simp [List.drop_append]
  have hnone : symbolsOf (((hrp ++ 0x31 :: dat).map fold).drop (hrp.length + 1)) = none :=
    hdrop ▸ symbolsOf_eq_none.2 (by simpa using h)
  rw [decode32_separated hL hdat hrange hcase, separatedSteps_charset (by simpa using hhrp) (hd ▸ hsix) hnone, hd]

theorem decode32_checksum {syms : List Byte} (hsyms : (dat.map fun c => charset5 (fold c)) = syms.map fun v => some v.toNat)
    (hsum : verifyChecksum (hrp.map fold) syms = false) :
    decode32 ok L (hrp ++ 0x31 :: dat) =
      { cleared32 .b32Checksum with
        info := infoFound hrp.length dat.length
        polyRes := BitVec.ofNat 30 (polymod (naturals (hrpExpand (hrp.map fold) ++ syms))) } := by
  rw [decode32_separated hL hdat hrange hcase, separatedSteps_checksum hlen hhrp hsix hsyms, checksumSteps_fail _ hsum]

end cut

/-! ### Case invariance -/

theorem any_isUpper_map_fold (l : List Byte) : (l.map fold).any isUpper = false := by
  simp [isUpper_fold]

/-- Every check of the decode after the one on mixed case reads the folded string (R199). -/
theorem decode32_map_fold {text : List Byte} (h : ∀ c ∈ text, isLower c = false) (ok : Bool) (L : Nat) :
    decode32 ok L (text.map fold) = decode32 ok L text := by
  have hrange : (text.map fold).any outside32 = text.any outside32 := by
    simp [List.any_map, Function.comp_def, outside32_fold]
  have hfold : (text.map fold).map fold = text.map fold := by
    simp [fold_fold]
  have hlower : text.any isLower = false := by simpa using h
  have hcase : mixedCase text = false := by simp only [mixedCase, hlower, Bool.and_false]
  have hcase' : mixedCase (text.map fold) = false := by simp only [mixedCase, any_isUpper_map_fold, Bool.false_and]
  simp only [decode32, hrange, hfold, hcase, hcase']

/-! ### Values of `b` bits as one number -/

theorem bitsNumber_concat (b : Nat) (vs : List Nat) (v : Nat) : bitsNumber b (vs ++ [v]) = bitsNumber b vs * 2 ^ b + v := by
  simp [bitsNumber]

/-- The library's digits of a number stand least significant first. -/
theorem bitsNumber_eq_ofDigits (b : Nat) (vs : List Nat) : bitsNumber b vs = Nat.ofDigits (2 ^ b) vs.reverse := by
  induction vs using List.reverseRecOn with
  | nil => rfl
  | append_singleton vs v ih =>
    rw [bitsNumber_concat, ih, List.reverse_concat, Nat.ofDigits_cons]
    ring

theorem bitsNumber_append (b : Nat) (vs ws : List Nat) :
    bitsNumber b (vs ++ ws) = bitsNumber b vs * 2 ^ (b * ws.length) + bitsNumber b ws := by
  simp only [bitsNumber_eq_ofDigits, List.reverse_append, Nat.ofDigits_append, List.length_reverse, Nat.pow_mul]
  ring

theorem bitsNumber_cons (b v : Nat) (vs : List Nat) : bitsNumber b (v :: vs) = v * 2 ^ (b * vs.length) + bitsNumber b vs := by
  rw [← List.singleton_append, bitsNumber_append]
  simp [bitsNumber]

/-- A number has one sequence of `b`-bit values of each length. -/
theorem bitsNumber_inj {b : Nat} (hb : 1 ≤ b) {vs ws : List Nat} (hvs : ∀ v ∈ vs, v < 2 ^ b) (hws : ∀ v ∈ ws, v < 2 ^ b)
    (hlen : vs.length = ws.length) (h : bitsNumber b vs = bitsNumber b ws) : vs = ws := by
  rw [bitsNumber_eq_ofDigits, bitsNumber_eq_ofDigits] at h
  refine List.reverse_injective (Nat.ofDigits_inj_of_len_eq (Nat.one_lt_two_pow (by omega)) (by simpa using hlen) ?_ ?_ h)
  · simpa using hvs
  · simpa using hws

/-! ### The regrouper's loops -/

/-- The inner loop takes the pending bits off the top: its values followed by the bits it leaves are the bits it was given (R210). -/
theorem drain_value {t : Nat} (ht : 1 ≤ t) (acc fuel bits : Nat) (h : bits ≤ fuel) :
    bitsNumber t (drain t acc fuel bits).1 * 2 ^ (bits % t) + acc % 2 ^ (bits % t) = acc % 2 ^ bits := by
  induction fuel generalizing bits with
  | zero =>
    obtain rfl : bits = 0 := by omega
    simp [drain, bitsNumber]
  | succ k ih =>
    rw [drain]
    split
    · rename_i hb
      have hrest := ih (bits - t) (by omega)
      have hlen : t * (drain t acc k (bits - t)).1.length + (bits - t) % t = bits - t := by
        rw [(drain_spec ht acc k (bits - t) (by omega)).1, Nat.div_add_mod]
      have htop : acc % 2 ^ bits = acc / 2 ^ (bits - t) % 2 ^ t * 2 ^ (bits - t) + acc % 2 ^ (bits - t) := by
        conv_lhs => rw [← Nat.sub_add_cancel hb, pow_add, Nat.mod_mul]
        ring
      rw [Nat.mod_eq_sub_mod hb, htop, ← hrest, bitsNumber_cons, and_maxv, Nat.shiftRight_eq_div_pow, Nat.add_mul, Nat.mul_assoc,
        ← pow_add, hlen, Nat.add_assoc]
    · rename_i hb
      rw [Nat.mod_eq_of_lt (Nat.not_le.1 hb)]
      simp [bitsNumber]

/-- The accumulator after the shift-in of the value `v` (R210). -/
def shiftIn (f t acc v : Nat) : Nat := ((acc <<< f) ||| v) &&& (2 ^ (f + t - 1) - 1)

/-- The mask keeps the pending bits and the new value (R210). -/
theorem shiftIn_mod {f t acc v bits : Nat} (hv : v < 2 ^ f) (hbits : bits < t) :
    shiftIn f t acc v % 2 ^ (bits + f) = acc % 2 ^ bits * 2 ^ f + v := by
  have hmask : 2 ^ (bits + f) ∣ 2 ^ (f + t - 1) := Nat.pow_dvd_pow 2 (by omega)
  rw [shiftIn, ← Nat.shiftLeft_add_eq_or_of_lt hv, Nat.and_two_pow_sub_one_eq_mod, Nat.mod_mod_of_dvd _ hmask, Nat.shiftLeft_eq,
    Nat.add_comm bits f, Nat.add_comm (acc * 2 ^ f), pow_add, Nat.mod_mul, Nat.add_mul_mod_self_right, Nat.mod_eq_of_lt hv,
    Nat.add_mul_div_right _ _ (Nat.two_pow_pos f), Nat.div_eq_of_lt hv, Nat.zero_add]
  ring

theorem fits_iff (f v : Nat) : v >>> f = 0 ↔ v < 2 ^ f := by
  rw [Nat.shiftRight_eq_div_pow, Nat.div_eq_zero_iff_lt (Nat.two_pow_pos f)]

/-- A round of the outer loop whose value fits (R210). -/
theorem regroupLoop_cons {f t v : Nat} (hv : v < 2 ^ f) (ht : 1 ≤ t) (vs : List Nat) (acc bits : Nat) :
    regroupLoop f t (v :: vs) acc bits =
      (regroupLoop f t vs (shiftIn f t acc v) ((bits + f) % t)).map fun r =>
        ((drain t (shiftIn f t acc v) (bits + f) (bits + f)).1 ++ r.1, r.2) := by
  rw [regroupLoop, if_neg (not_not.2 ((fits_iff f v).2 hv))]
  simp only [shiftIn, (drain_spec ht _ _ _ (Nat.le_refl (bits + f))).2.1]
  cases regroupLoop f t vs _ ((bits + f) % t) <;> rfl

/-- The loop fails exactly on a value that does not fit (R210). -/
theorem regroupLoop_eq_none {f t : Nat} (ht : 1 ≤ t) {data : List Nat} {acc bits : Nat} :
    regroupLoop f t data acc bits = none ↔ ∃ v ∈ data, 2 ^ f ≤ v := by
  induction data generalizing acc bits with
  | nil => simp [regroupLoop]
  | cons v vs ih =>
    by_cases hv : v < 2 ^ f
    · simp [regroupLoop_cons hv ht, ih, Nat.not_le.2 hv]
    · simp [regroupLoop, mt (fits_iff f v).1 hv, Nat.not_lt.1 hv]

/-- The loop over values that fit: the bits of its values followed by those still pending are those it was given (R210). -/
theorem regroupLoop_spec {f t : Nat} (ht : 1 ≤ t) {data : List Nat} (hdata : ∀ v ∈ data, v < 2 ^ f) {acc bits : Nat}
    (hbits : bits < t) : ∃ vs accEnd,
    regroupLoop f t data acc bits = some (vs, accEnd, (bits + f * data.length) % t) ∧ (∀ v ∈ vs, v < 2 ^ t) ∧
    bitsNumber t vs * 2 ^ ((bits + f * data.length) % t) + accEnd % 2 ^ ((bits + f * data.length) % t) =
      acc % 2 ^ bits * 2 ^ (f * data.length) + bitsNumber f data := by
  induction data generalizing acc bits with
  | nil => exact ⟨[], acc, by simp [regroupLoop, Nat.mod_eq_of_lt hbits], by simp, by simp [Nat.mod_eq_of_lt hbits, bitsNumber]⟩
  | cons v data ih =>
    obtain ⟨hv, hdata⟩ := List.forall_mem_cons.1 hdata
    obtain ⟨rest, accEnd, hloop, hrest, hvalue⟩ := ih hdata (acc := shiftIn f t acc v) (Nat.mod_lt (bits + f) ht)
    obtain ⟨-, -, hdrain⟩ := drain_spec ht (shiftIn f t acc v) _ _ (Nat.le_refl (bits + f))
    have hleft : ((bits + f) % t + f * data.length) % t = (bits + f * (v :: data).length) % t := by
      rw [Nat.mod_add_mod, List.length_cons, Nat.mul_succ, Nat.add_assoc, Nat.add_comm f]
    rw [hleft] at hloop hvalue
    refine ⟨_, accEnd, by rw [regroupLoop_cons hv ht, hloop]; rfl, ?_, ?_⟩
    · exact fun w hw => (List.mem_append.1 hw).elim (hdrain w) (hrest w)
    · have hpending := drain_value ht (shiftIn f t acc v) _ _ (Nat.le_refl (bits + f))
      rw [shiftIn_mod hv hbits] at hpending
      have hbitsOut := regroupLoop_length ht hloop
      rw [bitsNumber_append, Nat.add_mul, Nat.add_assoc, hvalue, Nat.mul_assoc, ← pow_add, hbitsOut, bitsNumber_cons,
        List.length_cons, Nat.mul_succ, pow_add, pow_add]
      linear_combination 2 ^ (f * data.length) * hpending

/-! ### The results of the regrouper -/

/-- Values that fit, regrouped with padding and without: `vs` holds the bits of the input above the `r` bits left over (R210). -/
theorem convertBits_spec {f t : Nat} (ht : 1 ≤ t) {data : List Nat} (hdata : ∀ v ∈ data, v < 2 ^ f) {r N : Nat}
    (hr : f * data.length % t = r) (hN : bitsNumber f data = N) :
    ∃ vs acc, regroupLoop f t data 0 0 = some (vs, acc, r) ∧ t * vs.length + r = f * data.length ∧ (∀ v ∈ vs, v < 2 ^ t) ∧
      bitsNumber t vs = N / 2 ^ r ∧
      convertBits data f t true = .values (if 0 < r then vs ++ [N % 2 ^ r * 2 ^ (t - r)] else vs) ∧
      convertBits data f t false = if f ≤ r then .failLeftover else if N % 2 ^ r ≠ 0 then .failPadBits else .values vs := by
  obtain ⟨vs, acc, hloop, hfits, hvalue⟩ := regroupLoop_spec ht hdata (acc := 0) (bits := 0) ht
  rw [Nat.zero_add, hr] at hloop hvalue
  rw [Nat.zero_mod, Nat.zero_mul, Nat.zero_add, hN] at hvalue
  obtain ⟨hdiv, hmod⟩ : N / 2 ^ r = bitsNumber t vs ∧ N % 2 ^ r = acc % 2 ^ r :=
    (Nat.div_mod_unique (Nat.two_pow_pos r)).2 ⟨by rw [← hvalue]; ring, Nat.mod_lt _ (Nat.two_pow_pos r)⟩
  have hrt : r < t := hr ▸ Nat.mod_lt _ ht
  have hpad : (acc <<< (t - r)) &&& maxv t = N % 2 ^ r * 2 ^ (t - r) := by
    conv_lhs => rw [and_maxv, Nat.shiftLeft_eq, ← Nat.add_sub_cancel' hrt.le, pow_add, Nat.add_sub_cancel_left]
    rw [Nat.mul_mod_mul_right, hmod]
  have hzero : N % 2 ^ r * 2 ^ (t - r) = 0 ↔ N % 2 ^ r = 0 := by simp
  refine ⟨vs, acc, hloop, regroupLoop_length ht hloop, hfits, hdiv.symm, ?_, ?_⟩
  · simp only [convertBits, hloop, hpad, if_true]
  · simp only [convertBits, hloop, hpad, hzero, Bool.false_eq_true, if_false, ne_eq]

theorem convertBits_failRange {f t : Nat} (ht : 1 ≤ t) {data : List Nat} {pad : Bool} :
    convertBits data f t pad = .failRange ↔ ∃ v ∈ data, 2 ^ f ≤ v := by
  rw [← regroupLoop_eq_none ht (acc := 0) (bits := 0)]
  unfold convertBits
  split
  · rename_i h
    simp [h]
  · rename_i h
    rw [h]
    refine iff_of_false ?_ (by simp)
    split_ifs <;> simp

/-- Only values that fit are regrouped (R210). -/
theorem lt_of_convertBits_values {f t : Nat} (ht : 1 ≤ t) {data vs : List Nat} {pad : Bool} (h : convertBits data f t pad = .values vs) :
    ∀ v ∈ data, v < 2 ^ f := fun v hv =>
  Nat.lt_of_not_le fun hle => by
    rw [(convertBits_failRange ht).2 ⟨v, hv, hle⟩] at h
    cases h

/-- A regrouping without padding succeeds with less than one value's bits left over, all of them 0 (R210, R211). -/
theorem convertBits_noPad_values {f t : Nat} (ht : 1 ≤ t) {data vs : List Nat} (h : convertBits data f t false = .values vs) :
    f * data.length % t < f ∧ bitsNumber f data % 2 ^ (f * data.length % t) = 0 ∧
      t * vs.length + f * data.length % t = f * data.length ∧ (∀ v ∈ vs, v < 2 ^ t) ∧
      bitsNumber t vs = bitsNumber f data / 2 ^ (f * data.length % t) := by
  obtain ⟨ws, acc, -, hlen, hfits, hvalue, -, hfalse⟩ := convertBits_spec ht (lt_of_convertBits_values ht h) rfl rfl
  rw [hfalse] at h
  split_ifs at h with hleft hbits
  cases h
  exact ⟨Nat.not_le.1 hleft, not_not.1 hbits, hlen, hfits, hvalue⟩

/-- The bits left over stand above the zeros of the last value (R210). -/
theorem bitsNumber_padded {t r N : Nat} (hr : r < t) {vs : List Nat} (hvs : bitsNumber t vs = N / 2 ^ r) :
    bitsNumber t (vs ++ [N % 2 ^ r * 2 ^ (t - r)]) = N * 2 ^ (t - r) := by
  conv_rhs => rw [← Nat.div_add_mod' N (2 ^ r)]
  rw [bitsNumber_concat, hvs, Nat.add_mul, Nat.mul_assoc, ← pow_add, Nat.add_sub_cancel' hr.le]

/-- Equal widths leave the values as they are (R211). -/
theorem convertBits_sameWidth {f : Nat} (hf : 1 ≤ f) {data : List Nat} (hdata : ∀ v ∈ data, v < 2 ^ f) (pad : Bool) :
    convertBits data f f pad = .values data := by
  obtain ⟨vs, acc, -, hlen, hfits, hvalue, htrue, hfalse⟩ := convertBits_spec hf hdata (Nat.mul_mod_right f _) rfl
  have hvs : vs = data :=
    bitsNumber_inj hf hfits hdata (Nat.eq_of_mul_eq_mul_left hf hlen) (by rw [hvalue, pow_zero, Nat.div_one])
  cases pad
  · rw [hfalse, if_neg (by omega), if_neg (by simp [Nat.mod_one]), hvs]
  · rw [htrue, if_neg (by omega), hvs]

/-- Padding adds one value where bits are left over (R211). -/
theorem padded_length {t m r : Nat} (hr : r < t) {vs : List Nat} (hlen : t * vs.length + r = m) (v : Nat) :
    (if 0 < r then vs ++ [v] else vs).length = (m + t - 1) / t := by
  symm
  split_ifs with h
  · rw [List.length_append, List.length_singleton]
    exact Nat.div_eq_of_lt_le (by rw [Nat.succ_mul, Nat.mul_comm]; omega) (by rw [Nat.succ_mul, Nat.succ_mul, Nat.mul_comm]; omega)
  · exact Nat.div_eq_of_lt_le (by rw [Nat.mul_comm]; omega) (by rw [Nat.succ_mul, Nat.mul_comm]; omega)

/-- The last value of a padded regrouping, the bits left over above zeros, fits the output width (R212). -/
theorem padded_fits {t r N : Nat} (hr : r < t) {vs : List Nat} (hvs : ∀ v ∈ vs, v < 2 ^ t) :
    ∀ v ∈ (if 0 < r then vs ++ [N % 2 ^ r * 2 ^ (t - r)] else vs), v < 2 ^ t := by
  have hlast : N % 2 ^ r * 2 ^ (t - r) < 2 ^ t := by
    calc N % 2 ^ r * 2 ^ (t - r)
      _ < 2 ^ r * 2 ^ (t - r) := Nat.mul_lt_mul_of_pos_right (Nat.mod_lt _ (Nat.two_pow_pos r)) (Nat.two_pow_pos _)
      _ = 2 ^ t := by rw [← pow_add, Nat.add_sub_cancel' hr.le]
  split_ifs
  · simpa [or_imp, forall_and, hlast] using hvs
  · exact hvs

/-- When a regrouping of fitting values without padding fails, and when it succeeds (R210). -/
theorem convertBits_noPad_iff {f t : Nat} (ht : 1 ≤ t) {data : List Nat} (hdata : ∀ v ∈ data, v < 2 ^ f) {r : Nat}
    (hr : f * data.length % t = r) :
    (convertBits data f t false = .failLeftover ↔ f ≤ r) ∧
    (convertBits data f t false = .failPadBits ↔ r < f ∧ bitsNumber f data % 2 ^ r ≠ 0) ∧
    ((∃ vs, convertBits data f t false = .values vs) ↔ r < f ∧ bitsNumber f data % 2 ^ r = 0) := by
  obtain ⟨vs, acc, -, -, -, -, -, hfalse⟩ := convertBits_spec ht hdata hr rfl
  rw [hfalse]
  by_cases hleft : f ≤ r
  · simp [hleft, Nat.not_lt.2 hleft]
  · by_cases hbits : bitsNumber f data % 2 ^ r = 0 <;> simp [hleft, Nat.not_le.1 hleft, hbits]

/-- From 5 to 8 bits, five bits or more are left over at these counts of symbols (R211). -/
theorem leftover_five_eight (n : Nat) : 5 ≤ 5 * n % 8 ↔ n % 8 = 1 ∨ n % 8 = 3 ∨ n % 8 = 6 := by
  have hlt : n % 8 < 8 := Nat.mod_lt n (by decide)
  rw [Nat.mul_mod]
  interval_cases n % 8 <;> decide

/-! ### What an accepted string holds -/

/-- The string `text` passes every check of B32DEC, cut at its last '1' into `hrp` and `dat` with the symbols `syms` (R190 to R197). -/
structure Passes32 (ok : Bool) (text hrp dat syms : List Byte) : Prop where
  length_le : text.length ≤ 90
  cut : text = hrp ++ 0x31 :: dat
  last : 0x31 ∉ dat
  range : text.any outside32 = false
  oneCase : mixedCase text = false
  hrp_allowed : hrp ≠ [] ∨ ok = true
  six_le : 6 ≤ dat.length
  symbols : (dat.map fun c => charset5 (fold c)) = syms.map fun v => some v.toNat
  checksum : verifyChecksum (hrp.map fold) syms = true

/-- What the decode leaves of a string that passes every check (R197, R198). -/
theorem Passes32.decode32_eq {ok : Bool} {text hrp dat syms : List Byte} (h : Passes32 ok text hrp dat syms) :
    decode32 ok text.length text =
      { info := infoFound hrp.length dat.length, polyRes := 1, syms := syms.take (dat.length - 6), hrp := hrp.map fold,
        reason := .ok } :=
  decode32_accepts h.length_le h.cut h.last h.range h.oneCase h.hrp_allowed h.six_le h.symbols h.checksum

/-- A decode that ends with REASON OK has passed every check: each failing one leaves its code (R190 to R197). -/
theorem passes32_of_ok {ok : Bool} {L : Nat} {text : List Byte} (hlen : L ≤ 90 → text.length = L)
    (h : (decode32 ok L text).reason = .ok) : text.length = L ∧ ∃ hrp dat syms, Passes32 ok text hrp dat syms := by
  have hL : L ≤ 90 := Nat.le_of_not_lt fun hL => by
    rw [decode32_long hL] at h
    cases h
  have htext := hlen hL
  have hrange : text.any outside32 = false := Bool.eq_false_iff.2 fun hrange => by
    rw [decode32_charRange hL hrange] at h
    cases h
  have hcase : mixedCase text = false := Bool.eq_false_iff.2 fun hcase => by
    rw [decode32_mixedCase hL hrange hcase] at h
    cases h
  obtain ⟨-, hone⟩ | ⟨hrp, dat, rfl, -, hdat⟩ := lastOne_spec text
  · rw [decode32_noSep hL hrange hcase hone] at h
    cases h
  have hlen : L = hrp.length + 1 + dat.length := htext.symm.trans (cut_length hrp dat)
  have hhrp : hrp ≠ [] ∨ ok = true := or_iff_not_imp_left.2 fun hhrp => Bool.eq_true_of_not_eq_false fun hok => by
    rw [decode32_emptyHrp hlen hL hdat hrange hcase (not_not.1 hhrp) hok] at h
    cases h
  have hsix : 6 ≤ dat.length := Nat.le_of_not_lt fun hsix => by
    rw [decode32_shortData hlen hL hdat hrange hcase hhrp hsix] at h
    cases h
  obtain ⟨syms, hs⟩ : ∃ syms, symbolsOf (dat.map fold) = some syms := Option.ne_none_iff_exists'.1 fun hs => by
    rw [decode32_charset hlen hL hdat hrange hcase hhrp hsix (by simpa [symbolsOf_eq_none] using hs)] at h
    cases h
  have hsyms : (dat.map fun c => charset5 (fold c)) = syms.map fun v => some v.toNat := by
    simpa [Function.comp_def] using (symbolsOf_some hs).2.2
  have hsum : verifyChecksum (hrp.map fold) syms = true := Bool.eq_true_of_not_eq_false fun hsum => by
    rw [decode32_checksum hlen hL hdat hrange hcase hhrp hsix hsyms hsum] at h
    cases h
  exact ⟨htext, hrp, dat, syms, htext ▸ hL, rfl, hdat, hrange, hcase, hhrp, hsix, hsyms, hsum⟩

/-- The symbols of a data part are below 32 (R195). -/
theorem Passes32.syms_lt {ok : Bool} {text hrp dat syms : List Byte} (h : Passes32 ok text hrp dat syms) :
    ∀ v ∈ syms, v.toNat < 32 := by
  intro v hv
  have hmem : some v.toNat ∈ dat.map fun c => charset5 (fold c) := h.symbols ▸ List.mem_map_of_mem hv
  obtain ⟨c, -, hc⟩ := List.mem_map.1 hmem
  exact charset5_lt hc

/-- The shape of a decode that ends with REASON OK (R192 to R198). -/
theorem decode32_ok_shape {ok : Bool} {L : Nat} {text : List Byte} (hlen : L ≤ 90 → text.length = L) {b : Decode32}
    (hb : decode32 ok L text = b) (h : b.reason = .ok) :
    L ≤ 90 ∧ L = b.hrp.length + b.syms.length + 7 ∧ b.info = infoFound b.hrp.length (b.syms.length + 6) ∧ b.polyRes = 1 ∧
      b.hrp = (text.take b.hrp.length).map fold ∧ ∀ v ∈ b.syms, v.toNat < 32 := by
  subst hb
  obtain ⟨rfl, hrp, dat, syms, hp⟩ := passes32_of_ok hlen h
  have hcount := length_of_map_charset5 hp.symbols
  have hcut : text.length = hrp.length + 1 + dat.length := hp.cut ▸ cut_length hrp dat
  have hsix := hp.six_le
  rw [hp.decode32_eq]
  simp only [List.length_map, List.length_take, hcount, Nat.min_eq_left (Nat.sub_le _ _), Nat.sub_add_cancel hsix]
  refine ⟨hp.length_le, by omega, trivial, trivial, ?_, fun v hv => hp.syms_lt v (List.mem_of_mem_take hv)⟩
  rw [hp.cut, List.take_left]

/-- B32_INFO says where the HRP of an accepted string ends (R48, R192). -/
theorem decode32_ok_hrp {ok : Bool} {L : Nat} {text : List Byte} (hlen : L ≤ 90 → text.length = L) {b : Decode32}
    (hb : decode32 ok L text = b) (h : b.reason = .ok) : b.hrp = (text.take b.info.sepPos.toNat).map fold := by
  obtain ⟨hL, hcut, hinfo, -, hhrp, -⟩ := decode32_ok_shape hlen hb h
  have hpos : b.info.sepPos.toNat = b.hrp.length := by
    rw [hinfo]
    exact Nat.mod_eq_of_lt (by omega)
  rw [hpos]
  exact hhrp

/-! ### SEGWIT step by step -/

theorem segwitOf_b32Fails {ok : Bool} {n : Network} {L : Nat} {text : List Byte} {b : Decode32} (hb : decode32 ok L text = b)
    (h : b.reason ≠ .ok) : segwitOf ok n L text = { b32 := b, wver := .cleared, out := [], reason := b.reason } := by
  rw [segwitOf, hb, if_pos h]

section segwit

variable {ok : Bool} {n : Network} {L : Nat} {text : List Byte} {b : Decode32} (hb : decode32 ok L text = b) (h : b.reason = .ok)
include hb h

theorem segwitOf_otherHrp (hhrp : b.hrp ≠ hrpBytes n) :
    segwitOf ok n L text = { b32 := b, wver := .cleared, out := [], reason := .segHrp } := by
  rw [segwitOf, hb, if_neg (not_not.2 h), if_pos hhrp]

theorem segwitOf_program (hhrp : b.hrp = hrpBytes n) : segwitOf ok n L text = programSteps b := by
  rw [segwitOf, hb, if_neg (not_not.2 h), if_neg (not_not.2 hhrp)]

end segwit

theorem programSteps_leftover {b : Decode32} (h : convertBits (naturals (b.syms.drop 1)) 5 8 false = .failLeftover) :
    programSteps b = { b32 := b, wver := wverOf b.syms, out := [], reason := .regLeftover } := by
  simp only [programSteps, h]

theorem programSteps_padBits {b : Decode32} (h : convertBits (naturals (b.syms.drop 1)) 5 8 false = .failPadBits) :
    programSteps b = { b32 := b, wver := wverOf b.syms, out := [], reason := .regPadBits } := by
  simp only [programSteps, h]

theorem programSteps_values {b : Decode32} {vs : List Nat} (h : convertBits (naturals (b.syms.drop 1)) 5 8 false = .values vs) :
    programSteps b =
      { b32 := b, wver := wverOf b.syms, out := bytesOf vs, reason := programReason (wverOf b.syms).ver.toNat vs.length } := by
  simp only [programSteps, h]

section programReason

variable {ver M : Nat}

theorem programReason_progLen (h : M < 2 ∨ 40 < M) : programReason ver M = .segProgLen := if_pos h

variable (hlo : 2 ≤ M) (hhi : M ≤ 40)
include hlo hhi

theorem programReason_version (h : 16 < ver) : programReason ver M = .segVersion := by
  rw [programReason, if_neg (by omega), if_pos h]

theorem programReason_v0Len (h : ver = 0) (h20 : M ≠ 20) (h32 : M ≠ 32) : programReason ver M = .segV0Len := by
  rw [programReason, if_neg (by omega), if_neg (by omega), if_pos ⟨h, h20, h32⟩]

end programReason

theorem programReason_eq_ok {ver M : Nat} :
    programReason ver M = .ok ↔ 2 ≤ M ∧ M ≤ 40 ∧ ver ≤ 16 ∧ (ver = 0 → M = 20 ∨ M = 32) := by
  unfold programReason
  split_ifs <;> simp <;> omega

theorem programSteps_eq_ok {b : Decode32} : (programSteps b).reason = .ok ↔ ∃ vs,
    convertBits (naturals (b.syms.drop 1)) 5 8 false = .values vs ∧ programReason (wverOf b.syms).ver.toNat vs.length = .ok := by
  unfold programSteps
  cases convertBits (naturals (b.syms.drop 1)) 5 8 false <;> simp

/-- SEGWIT accepts when B32DEC does, the HRP is the network's, and the program passes its checks (R222). -/
theorem segwitOf_eq_ok {ok : Bool} {n : Network} {L : Nat} {text : List Byte} {b : Decode32} (hb : decode32 ok L text = b) :
    (segwitOf ok n L text).reason = .ok ↔ b.reason = .ok ∧ b.hrp = hrpBytes n ∧ ∃ vs,
      convertBits (naturals (b.syms.drop 1)) 5 8 false = .values vs ∧ programReason (wverOf b.syms).ver.toNat vs.length = .ok := by
  by_cases h : b.reason = .ok
  case neg => simp [segwitOf_b32Fails hb h, h]
  by_cases hhrp : b.hrp = hrpBytes n
  case neg => simp [segwitOf_otherHrp hb h hhrp, hhrp]
  rw [segwitOf_program hb h hhrp, programSteps_eq_ok]
  simp only [h, hhrp, true_and]

/-- The version symbol fits the field VER (R221). -/
theorem wverOf_cons_toNat {v : Byte} (h : v.toNat < 32) (vs : List Byte) : (wverOf (v :: vs)).ver.toNat = v.toNat := by
  simp [wverOf, Nat.mod_eq_of_lt h]

/-- The completion of SEGWIT is that of B32DEC with OUT, WVER and the outcome written over it (R220, R222). -/
theorem segwitDone_of_steps {p : Params} {n : Network} {s : State} {r : DecodeSeg} (h : segwitOf p.emptyHrpOk n s.inLen.toNat s.text = r) :
    segwitDone p n s =
      { b32decDone p s with
        outLen := BitVec.ofNat 9 r.out.length, out := fill 256 r.out, wver := r.wver
        result := decide (r.reason = .ok), reason := r.reason } := by
  subst h
  unfold segwitDone State.putSegwit
  dsimp only
  rw [(segwitOf_ranges p.emptyHrpOk n s.inLen.toNat (text_length_le s)).1]
  rfl

theorem exec_segwit_of_steps {n : Network} {s : State} {r : DecodeSeg}
    (h : segwitOf Config.params.emptyHrpOk n s.inLen.toNat s.text = r) :
    exec (.segwit n) s = .next
      { b32decDone Config.params s with
        outLen := BitVec.ofNat 9 r.out.length, out := fill 256 r.out, wver := r.wver
        result := decide (r.reason = .ok), reason := r.reason } :=
  congrArg Host.Outcome.next (segwitDone_of_steps h)

/-- SEGWIT after a check that fails before the program is known leaves OUT cleared (R222). -/
theorem exec_segwit_failed {n : Network} {s : State} {b : Decode32} {wver : WVer} {code : Reason} (hcode : code ≠ .ok)
    (h : segwitOf Config.params.emptyHrpOk n s.inLen.toNat s.text = { b32 := b, wver := wver, out := [], reason := code }) :
    exec (.segwit n) s = .next
      { b32decDone Config.params s with
        outLen := 0, out := Vector.replicate 256 0, wver := wver, result := false, reason := code } := by
  rw [exec_segwit_of_steps h, fill_nil, decide_eq_false hcode]
  rfl

/-- SEGWIT after the regrouping leaves the program in OUT, whatever the checks on it say (R222). -/
theorem exec_segwit_program {n : Network} {s : State} {b : Decode32} (hb : decode32 Config.params.emptyHrpOk s.inLen.toNat s.text = b)
    (hok : b.reason = .ok) (hhrp : b.hrp = hrpBytes n) {vs : List Nat}
    (hvs : convertBits (naturals (b.syms.drop 1)) 5 8 false = .values vs) {code : Reason}
    (hcode : programReason (wverOf b.syms).ver.toNat vs.length = code) :
    exec (.segwit n) s = .next
      { b32decDone Config.params s with
        outLen := BitVec.ofNat 9 vs.length, out := fill 256 (vs.map (BitVec.ofNat 8)), wver := wverOf b.syms
        result := decide (code = .ok), reason := code } := by
  rw [exec_segwit_of_steps ((segwitOf_program hb hok hhrp).trans (programSteps_values hvs)), hcode, bytesOf, List.length_map]

/-- The symbols that stand in SYM after a write are those that were written (R44, R53). -/
theorem symbols_putSymbols {l : List Byte} (h : l.length ≤ 192) (s : State) : (s.putSymbols l).symbols = l := by
  have hlen : (BitVec.ofNat 8 l.length).toNat = l.length := by rw [BitVec.toNat_ofNat]; omega
  simp only [State.symbols, State.putSymbols_symLen, State.putSymbols_sym, hlen]
  refine List.ext_getElem (by simp [h]) fun i _ hi => ?_
  simp [hi]

theorem b32decDone_symbols (p : Params) (s : State) :
    (b32decDone p s).symbols = (decode32 p.emptyHrpOk s.inLen.toNat s.text).syms :=
  symbols_putSymbols (decode32_syms_length_le_192 p.emptyHrpOk s.inLen.toNat (text_length_le s)) s

/-- The first of the symbols is the first element of SYM (R44). -/
theorem symbols_eq_cons {s : State} (h : s.symLen.toNat ≠ 0) : ∃ vs, s.symbols = s.sym[0] :: vs := by
  have hhead := symbols_getElem? s (i := 0) (Nat.pos_of_ne_zero h)
  cases hs : s.symbols with
  | nil => simp [hs] at hhead
  | cons v vs =>
    rw [hs] at hhead
    exact ⟨vs, congrArg (· :: vs) (Option.some.inj hhead)⟩

/-- WVER once the HRP has passed, from SYM and SYM_LEN (R221). -/
theorem wverOf_symbols (s : State) : wverOf s.symbols =
    if s.symLen.toNat = 0 then { ver := 0, wv := false } else { ver := s.sym[0].extractLsb' 0 5, wv := true } := by
  split_ifs with h
  · simp [State.symbols, h, wverOf, WVer.cleared]
  · obtain ⟨vs, hs⟩ := symbols_eq_cons h
    rw [hs]
    rfl

/-! ### The witness program -/

/-- Symbols from B32DEC fit the regrouper's width (R291's note on 0x30). -/
theorem naturals_drop_lt {l : List Byte} (h : ∀ v ∈ l, v.toNat < 32) (k : Nat) : ∀ v ∈ naturals (l.drop k), v < 2 ^ 5 := by
  intro v hv
  obtain ⟨c, hc, rfl⟩ := List.mem_map.1 hv
  exact h c (List.mem_of_mem_drop hc)

/-- A program takes the symbols that hold its bits, after the version symbol (R211, R224). -/
theorem syms_length_of_program {syms : List Byte} {vs : List Nat} (hlo : 2 ≤ vs.length)
    (h : convertBits (naturals (syms.drop 1)) 5 8 false = .values vs) : syms.length = 1 + (8 * vs.length + 4) / 5 := by
  obtain ⟨hleft, -, hbits, -, -⟩ := convertBits_noPad_values (by decide) h
  have hcount : (naturals (syms.drop 1)).length = syms.length - 1 := by simp [naturals]
  rw [hcount] at hleft hbits
  omega

theorem wverOf_wv {syms : List Byte} (h : 0 < syms.length) : (wverOf syms).wv = true := by
  obtain ⟨v, rest, rfl⟩ := List.exists_cons_of_length_pos h
  rfl

/-! ### The source's predicates -/

/-- With an HRP, B32DEC accepts exactly what the source's `decode_string` returns, with its HRP and symbols (R190 to R197). -/
theorem sourceDecodes_iff {L : Nat} {text hrp data : List Byte} (hlen : L ≤ 90 → text.length = L) (hne : hrp ≠ []) (ok : Bool)
    {b : Decode32} (hb : decode32 ok L text = b) :
    sourceDecodes L text hrp data ↔ b.reason = .ok ∧ b.hrp = hrp ∧ b.syms = data := by
  subst hb
  constructor
  · rintro ⟨hL, hrange, hcase, before, after, checksum, hcut, hlast, hbefore, rfl, hsix, hsyms, hsum⟩
    have hcount := length_of_map_charset5 hsyms
    have hpass : Passes32 ok text before after (data ++ checksum) :=
      { length_le := hlen hL ▸ hL, cut := hcut, last := hlast, range := any_outside32_eq_false.2 hrange
        oneCase := Bool.eq_false_iff.2 (mt mixedCase_eq_true.1 hcase), hrp_allowed := .inl hbefore
        six_le := by rw [List.length_append] at hcount; omega
        symbols := hsyms, checksum := (verifyChecksum_iff _ _).2 hsum }
    have hdata : (data ++ checksum).take (after.length - 6) = data := by
      rw [← hcount, List.length_append, hsix, Nat.add_sub_cancel, List.take_left]
    rw [← hlen hL, hpass.decode32_eq, hdata]
    exact ⟨rfl, rfl, rfl⟩
  · rintro ⟨hok, rfl, rfl⟩
    obtain ⟨rfl, before, after, syms, hpass⟩ := passes32_of_ok hlen hok
    have hcount := length_of_map_charset5 hpass.symbols
    have hsix := hpass.six_le
    rw [hpass.decode32_eq] at hne ⊢
    refine ⟨hpass.length_le, any_outside32_eq_false.1 hpass.range, mt mixedCase_eq_true.2 (Bool.eq_false_iff.1 hpass.oneCase),
      before, after, syms.drop (after.length - 6), hpass.cut, hpass.last, by simpa using hne, rfl, ?_, ?_, ?_⟩
    · rw [List.length_drop]
      omega
    · rw [List.take_append_drop]
      exact hpass.symbols
    · rw [List.take_append_drop]
      exact (verifyChecksum_iff _ _).1 hpass.checksum

theorem hrpBytes_ne_nil (n : Network) : hrpBytes n ≠ [] := by cases n <;> decide

/-- SEGWIT accepts exactly where the source's `decode_segwit` returns (R222, R223). -/
theorem segwitOf_ok_iff_source {L : Nat} {text : List Byte} (hlen : L ≤ 90 → text.length = L) (ok : Bool) (n : Network) :
    (segwitOf ok n L text).reason = .ok ↔ sourceSegwit n L text := by
  generalize hb : decode32 ok L text = b
  have hsource (data : List Byte) := sourceDecodes_iff (data := data) hlen (hrpBytes_ne_nil n) ok hb
  simp only [segwitOf_eq_ok hb, sourceSegwit, hsource, programReason_eq_ok]
  constructor
  · rintro ⟨hok, hhrp, vs, hvs, hlo, hhi, hver, hzero⟩
    obtain ⟨-, -, -, -, -, hlt⟩ := decode32_ok_shape hlen hb hok
    have hcount := syms_length_of_program hlo hvs
    obtain ⟨v, rest, hs⟩ := List.exists_cons_of_length_pos (l := b.syms) (by omega)
    rw [hs] at hvs hver hzero hlt
    rw [wverOf_cons_toNat (hlt v List.mem_cons_self)] at hver hzero
    exact ⟨v, rest, vs, ⟨hok, hhrp, hs⟩, hvs, hlo, hhi, hver, hzero⟩
  · rintro ⟨v, rest, vs, ⟨hok, hhrp, hs⟩, hvs, hlo, hhi, hver, hzero⟩
    obtain ⟨-, -, -, -, -, hlt⟩ := decode32_ok_shape hlen hb hok
    rw [hs] at hlt ⊢
    refine ⟨hok, hhrp, vs, hvs, hlo, hhi, ?_⟩
    rw [wverOf_cons_toNat (hlt v List.mem_cons_self)]
    exact ⟨hver, hzero⟩

theorem bitVec_append_inj {m n : Nat} {x x' : BitVec m} {y y' : BitVec n} (h : x ++ y = x' ++ y') : x = x' ∧ y = y' := by
  have hy : y = y' := by
    have := congrArg (BitVec.setWidth n) h
    rwa [BitVec.setWidth_append_eq_right, BitVec.setWidth_append_eq_right] at this
  subst hy
  exact ⟨(BitVec.append_left_inj y).1 h, rfl⟩

theorem packBytes_inj {a b c d a' b' c' d' : Byte} :
    packBytes a b c d = packBytes a' b' c' d' ↔ [a, b, c, d] = [a', b', c', d'] := by
  constructor
  · intro h
    obtain ⟨habc, rfl⟩ := bitVec_append_inj (m := 24) (n := 8) h
    obtain ⟨hab, rfl⟩ := bitVec_append_inj (m := 16) (n := 8) habc
    obtain ⟨rfl, rfl⟩ := bitVec_append_inj (m := 8) (n := 8) hab
    rfl
  · intro h
    obtain ⟨rfl, rfl, rfl, rfl, -⟩ := by simpa only [List.cons.injEq] using h
    rfl

/-- The two checksums are equal when the bytes they pack are (R50, R51, R243). -/
theorem checkComputed_eq_checkCarried (sha : List Byte → Vector Byte 32) (pay : Vector Byte 25) :
    checkComputed sha pay = checkCarried pay ↔ (sha (sha (pay.toList.take 21)).toList).toList.take 4 = pay.toList.drop 21 := by
  generalize hh : sha (sha (pay.toList.take 21)).toList = h
  have hhead : h.toList.take 4 = [h[0], h[1], h[2], h[3]] := by
    refine List.ext_getElem (by simp) fun i _ hi => ?_
    have hi : i < 4 := hi
    interval_cases i <;> simp
  have htail : pay.toList.drop 21 = [pay[21], pay[22], pay[23], pay[24]] := by
    refine List.ext_getElem (by simp) fun i _ hi => ?_
    have hi : i < 4 := hi
    interval_cases i <;> simp
  rw [hhead, htail, ← packBytes_inj, checkComputed, checkCarried, hh]

/-- A string that is not valid has a first character outside the alphabet (R142). -/
theorem exists_first_invalid {text : List Byte} (h : valid58 text = false) :
    ∃ before c after, text = before ++ c :: after ∧ valid58 before = true ∧ digit58 c = none := by
  induction text with
  | nil => cases h
  | cons c cs ih =>
    cases hc : digit58 c with
    | none => exact ⟨[], c, cs, rfl, rfl, hc⟩
    | some d =>
      have hcs : valid58 cs = false := Bool.eq_false_iff.2 fun hv => Bool.eq_false_iff.1 h (valid58_cons.2 ⟨⟨d, hc⟩, hv⟩)
      obtain ⟨before, e, after, rfl, hbefore, he⟩ := ih hcs
      exact ⟨c :: before, e, after, rfl, valid58_cons.2 ⟨⟨d, hc⟩, hbefore⟩, he⟩

/-- B58CHK accepts exactly where the source's `validate_base58` does (R244, R246). -/
theorem b58chkOf_ok_iff_source {L : Nat} {text : List Byte} (hlen : L ≤ 90 → text.length = L) (p : Params) (n : Network) :
    (b58chkOf p n L text).reason = .ok ↔ sourceBase58 p n L text := by
  unfold sourceBase58
  by_cases hL : 27 ≤ L ∧ L ≤ 35
  case neg =>
    rw [b58chkOf_length p n (by omega)]
    exact iff_of_false (by decide) fun h => hL ⟨h.1, h.2.1⟩
  obtain ⟨hlo, hhi⟩ := hL
  cases hvalid : valid58 text with
  | false =>
    obtain ⟨before, c, after, htext, hbefore, hc⟩ := exists_first_invalid hvalid
    rw [b58chkOf_invalid p n hlo hhi htext hbefore hc]
    simp
  | true =>
  by_cases hmagic : (refPayload text)[0] ∈ magicBytes n
  case neg =>
    rw [b58chkOf_magic p n hlo hhi (hlen (by omega)) hvalid hmagic]
    simp [hmagic]
  rw [b58chkOf_checksum p n hlo hhi (hlen (by omega)) hvalid hmagic, checksum58Reason_eq_ok, checkComputed_eq_checkCarried, refInfo,
    decide_eq_true_iff]
  simp only [hlo, hhi, hmagic, true_and]

/-! ### The statements -/

/-- Settles O47: a step leaves 30 bits, whatever the state before it. -/
theorem polymodFitsThirtyBits : Obligations.PolymodFitsThirtyBits := ⟨fun _ => polymod_lt, polymod_naturals_lt⟩

/-- Settles O49: the expansion of at most 90 characters fits SYM, which is read back element by element. -/
theorem hrpxExpandsTheString : Obligations.HrpxExpandsTheString := by
  intro s
  rw [exec_eq_completed rfl, completed]
  by_cases hL : s.inLen.toNat ≤ 90
  case neg =>
    refine ⟨Vector.replicate 192 0, 0, ?_, fun _ => ⟨rfl, rfl⟩, fun h => absurd h hL⟩
    simp [hrpxDone_long (Nat.not_le.1 hL), hL, State.putSymbols, State.complete, fill_nil]
  case pos =>
    have hlen := text_length_of_le hL
    refine ⟨fill 192 (hrpExpand s.text), BitVec.ofNat 8 (hrpExpand s.text).length, ?_, fun h => absurd hL (Nat.not_le.2 h), fun _ => ?_⟩
    · simp [hrpxDone, Nat.not_lt.2 hL, hL, State.putSymbols, State.complete]
    refine ⟨?_, fun i hi => ⟨?_, ?_⟩, ?_, fun j hj => ?_⟩
    · rw [hrpExpand_length, hlen, BitVec.toNat_ofNat]
      omega
    · rw [fill_toList_getD _ (by omega), hrpExpand_getElem?_high (hlen ▸ hi), text_getElem? s hi]
      rfl
    · rw [fill_toList_getD _ (by omega), ← hlen, hrpExpand_getElem?_low, text_getElem? s hi]
      rfl
    · rw [fill_toList_getD _ (by omega), ← hlen, hrpExpand_getElem?_separator]
      rfl
    · exact (fill_get 192 _ j.val j.isLt).trans (List.getD_eq_default _ _ (by rw [hrpExpand_length, hlen]; omega))

/-- Settles O51: the checks stand in this order in the rule, and each failing one leaves what the decode has found until then. -/
theorem b32decFailsInOrder : Obligations.B32decFailsInOrder := by
  refine ⟨fun _ _ => rfl, fun h => by simpa [naturals] using naturals_hrpExpand_append h [], rfl,
    fun p s => ⟨rfl, fun hL => b32decDone_failed (by decide) (decode32_long hL _ _), fun hL => ⟨fun hout => ?_, fun hin =>
      ⟨fun hmixed => ?_, fun hcase => ⟨fun hone => ?_, fun hrp dat htext hdat => ?_⟩⟩⟩⟩⟩
  · refine b32decDone_failed (by decide) (decode32_charRange hL ?_)
    simpa [outside32] using hout
  · exact b32decDone_failed (by decide) (decode32_mixedCase hL (any_outside32_eq_false.2 hin) (mixedCase_eq_true.2 hmixed))
  · have hcase := Bool.eq_false_iff.2 (mt mixedCase_eq_true.1 hcase)
    exact b32decDone_failed (by decide) (decode32_noSep hL (any_outside32_eq_false.2 hin) hcase hone)
  · have hlen : s.inLen.toNat = hrp.length + 1 + dat.length := by rw [← cut_length, ← htext, text_length_of_le hL]
    have hcase := Bool.eq_false_iff.2 (mt mixedCase_eq_true.1 hcase)
    have hrange := any_outside32_eq_false.2 hin
    rw [htext] at hcase hrange
    refine ⟨fun hnil hok => ?_, fun hhrp => ⟨fun hshort => ?_, fun hsix hnone => ?_, fun syms hsix hsyms hsum => ?_⟩⟩ <;>
      refine b32decDone_failed (by decide) (htext ▸ ?_)
    · exact decode32_emptyHrp hlen hL hdat hrange hcase hnil hok
    · exact decode32_shortData hlen hL hdat hrange hcase hhrp hshort
    · exact decode32_charset hlen hL hdat hrange hcase hhrp hsix hnone
    · exact decode32_checksum hlen hL hdat hrange hcase hhrp hsix hsyms hsum

/-- Settles O52: the two strings have one decode. -/
theorem upperCaseDecodesAsLowerCase : Obligations.UpperCaseDecodesAsLowerCase := by
  intro p s s' hlower hlen htext
  have h : decode32 p.emptyHrpOk s'.inLen.toNat s'.text = decode32 p.emptyHrpOk s.inLen.toNat s.text := by
    rw [hlen, htext, decode32_map_fold hlower]
  rw [b32decDone_of_decode32 h, b32decDone_of_decode32 rfl]
  exact ⟨rfl, rfl, rfl, rfl, rfl, rfl, rfl⟩

/-- Settles O54: no bit is lost on the way through the loop, and the bits left over are followed by zeros or are zeros. -/
theorem regroupingPreservesTheBits : Obligations.RegroupingPreservesTheBits := by
  intro f t data vs _ _ ht _
  refine ⟨fun h => ?_, fun h => ?_⟩
  · obtain ⟨r, hr⟩ : ∃ r, f * data.length % t = r := ⟨_, rfl⟩
    obtain ⟨ws, acc, -, hlen, -, hvalue, htrue, -⟩ := convertBits_spec ht (lt_of_convertBits_values ht h) hr rfl
    have hrt : r < t := hr ▸ Nat.mod_lt _ ht
    obtain rfl := Regrouped.values.inj (htrue.symm.trans h)
    split_ifs with hpos
    · have hzeros : t * (ws.length + 1) - f * data.length = t - r := by rw [Nat.mul_succ]; omega
      rw [bitsNumber_padded hrt hvalue, List.length_append, List.length_singleton, hzeros]
    · obtain rfl : r = 0 := by omega
      have hzeros : t * ws.length - f * data.length = 0 := by omega
      rw [hvalue, hzeros, pow_zero, Nat.div_one, Nat.mul_one]
  · obtain ⟨-, hzero, hlen, -, hvalue⟩ := convertBits_noPad_values ht h
    have hleft : f * data.length - t * vs.length = f * data.length % t := by omega
    rw [hleft, hvalue, Nat.div_mul_cancel (Nat.dvd_of_mod_eq_zero hzero)]

/-- Settles O55, from the one description of both regroupings; equal widths leave nothing over. -/
theorem regrouperFacts : Obligations.RegrouperFacts := by
  intro f t data hf _ ht _ hdata
  obtain ⟨vs, acc, hloop, hlen, hfits, -, htrue, -⟩ := convertBits_spec ht hdata rfl rfl
  obtain ⟨hleftover, hpadBits, hvalues⟩ := convertBits_noPad_iff ht hdata rfl
  have hrt : f * data.length % t < t := Nat.mod_lt _ ht
  refine ⟨⟨vs, acc, hloop⟩, ⟨_, htrue, padded_length hrt hlen _, padded_fits hrt hfits⟩, fun ws h => ?_, hleftover, hpadBits, hvalues,
    ?_, ?_⟩
  · obtain ⟨-, -, hcount, hfit, -⟩ := convertBits_noPad_values ht h
    exact ⟨by rw [← hcount, Nat.mul_add_div ht, Nat.div_eq_of_lt hrt, Nat.add_zero], hfit⟩
  · rintro rfl rfl
    rw [hleftover, hpadBits, ← leftover_five_eight, Nat.not_le]
    exact ⟨Iff.rfl, Iff.rfl⟩
  · rintro rfl pad
    exact convertBits_sameWidth hf hdata pad

/-- Settles O56: the loop stops at a value that does not fit, and only there. -/
theorem rangeFailureWins : Obligations.RangeFailureWins := fun _ _ _ _ _ ht => convertBits_failRange ht

/-- Settles O57: SEGWIT writes over B32DEC's state, whose registers tell what the later checks read. -/
theorem segwitExtendsB32dec : Obligations.SegwitExtendsB32dec := by
  refine ⟨rfl, rfl, fun n s u hu => ?_⟩
  obtain ⟨-, rfl⟩ := exec_next hu
  generalize hb : decode32 Config.params.emptyHrpOk s.inLen.toNat s.text = b
  have hresult : (completed .b32dec s).result = decide (b.reason = .ok) := hb ▸ rfl
  have hsymbols : (completed .b32dec s).symbols = b.syms := hb ▸ b32decDone_symbols Config.params s
  have hinfo : (completed .b32dec s).b32Info = b.info := hb ▸ rfl
  refine ⟨fun hfail => ?_, fun hok hhrp => ?_, fun hok hhrp wver hwver => ?_⟩
  · rw [exec_segwit_of_steps (segwitOf_b32Fails hb (of_decide_eq_false (hresult.symm.trans hfail))), fill_nil]
    subst hb
    rfl
  · have hok := of_decide_eq_true (hresult.symm.trans hok)
    rw [hinfo, ← decode32_ok_hrp text_length_of_le hb hok] at hhrp
    exact exec_segwit_failed (by decide) (segwitOf_otherHrp hb hok hhrp)
  · have hok := of_decide_eq_true (hresult.symm.trans hok)
    rw [hinfo, ← decode32_ok_hrp text_length_of_le hb hok] at hhrp
    rw [← wverOf_symbols] at hwver
    obtain ⟨-, -, -, -, -, hlt⟩ := decode32_ok_shape text_length_of_le hb hok
    have hsteps := segwitOf_program hb hok hhrp
    rw [← hsymbols] at hlt
    subst hwver
    refine ⟨fun hsome => ?_, ?_, fun h => ?_, fun h => ?_, fun vs t h ht => ?_⟩
    · obtain ⟨rest, hrest⟩ := symbols_eq_cons (Nat.one_le_iff_ne_zero.1 hsome)
      rw [hrest] at hlt ⊢
      exact wverOf_cons_toNat (hlt _ List.mem_cons_self) rest
    · rw [ne_eq, convertBits_failRange (by decide)]
      rintro ⟨v, hv, hle⟩
      exact absurd (naturals_drop_lt hlt 1 v hv) (Nat.not_lt.2 hle)
    · rw [hsymbols] at h ⊢
      exact exec_segwit_failed (by decide) (hsteps.trans (programSteps_leftover h))
    · rw [hsymbols] at h ⊢
      exact exec_segwit_failed (by decide) (hsteps.trans (programSteps_padBits h))
    · rw [hsymbols] at h ht ⊢
      subst ht
      exact ⟨fun hlen => exec_segwit_program hb hok hhrp h (programReason_progLen hlen),
        fun hlo hhi hver => exec_segwit_program hb hok hhrp h (programReason_version hlo hhi hver),
        fun hlo hhi hver h20 h32 => exec_segwit_program hb hok hhrp h (programReason_v0Len hlo hhi hver h20 h32),
        fun hlo hhi hver hzero => exec_segwit_program hb hok hhrp h (programReason_eq_ok.2 ⟨hlo, hhi, hver, hzero⟩)⟩

/-- Settles O58: the regrouping fixes the count of symbols for each program, and the decode the rest of the string. -/
theorem acceptedSegwitShape : Obligations.AcceptedSegwitShape := by
  intro n s t h hresult
  obtain ⟨-, rfl⟩ := exec_next h
  generalize hb : decode32 Config.params.emptyHrpOk s.inLen.toNat s.text = b
  obtain ⟨hok, hhrp, vs, hvs, hprogram⟩ := (segwitOf_eq_ok hb).1 (of_decide_eq_true hresult)
  obtain ⟨hL, hlen, hinfo, hpoly, -, hsyms⟩ := decode32_ok_shape text_length_of_le hb hok
  obtain ⟨hlo, hhi, hver, hzero⟩ := programReason_eq_ok.1 hprogram
  have hcount := syms_length_of_program hlo hvs
  have htwo : b.hrp.length = 2 := by rw [hhrp]; cases n <;> rfl
  rw [htwo] at hlen hinfo
  have houtLen : (BitVec.ofNat 9 vs.length).toNat = vs.length := Nat.mod_eq_of_lt (by omega)
  have hsymLen : (BitVec.ofNat 8 b.syms.length).toNat = b.syms.length := Nat.mod_eq_of_lt (by omega)
  have hdataLen : (infoFound 2 (b.syms.length + 6)).dataLen.toNat = b.syms.length + 6 := Nat.mod_eq_of_lt (by omega)
  rw [exec_segwit_program hb hok hhrp hvs hprogram] at h
  rw [← Host.Outcome.next.inj h, b32decDone_of_decode32 hb]
  dsimp only
  rw [houtLen, hsymLen, hinfo, hpoly, hdataLen]
  exact ⟨hlo, hhi, hcount, wverOf_wv (by omega), hver, fun h0 => hzero (congrArg BitVec.toNat h0), rfl, rfl, by omega, by omega, rfl⟩

/-- Settles O60, from the source's predicate of each path. -/
theorem validationMeetsTheSource : Obligations.ValidationMeetsTheSource := by
  intro n s t
  have hbase58 := b58chkOf_ok_iff_source (text_length_of_le (s := s)) Config.params n
  have hsegwit := segwitOf_ok_iff_source (text_length_of_le (s := s)) Config.params.emptyHrpOk n
  refine ⟨fun h => ?_, fun h => ?_, fun h => ?_⟩ <;> obtain ⟨-, rfl⟩ := exec_next h <;> rw [completed_result]
  · exact hbase58
  · exact hsegwit
  · rw [completed, validateDone_reason]
    by_cases hpath : startsWithHrp n s
    · rw [if_pos hpath, or_iff_left fun h => h.1 hpath, and_iff_right hpath]
      exact hsegwit
    · rw [if_neg hpath, or_iff_right fun h => hpath h.1, and_iff_right hpath]
      exact hbase58

end Sys2Proof.Machine

/-! PROOFS, family 42_validator: the state VALIDATE leaves on each path (R250, R252, R253). -/

namespace Sys2Proof.Machine

/-! ### The two paths of VALIDATE -/

/-- The registers that the base58 path clears, with an empty SYM and an empty OUT (R61, R253). -/
theorem clearBech32_eq (s : State) :
    s.clearBech32 =
      { s with
        symLen := 0, sym := Vector.replicate 192 0, polyRes := 0, b32Info := .cleared, outLen := 0
        out := Vector.replicate 256 0, wver := .cleared } := by
  rw [← fill_nil, ← fill_nil]
  rfl

/-- On the bech32 path VALIDATE leaves SEGWIT's state, but for PATH and the cleared base58 outputs (R252, R253). -/
theorem validateDone_of_hrp {n : Network} {s : State} (h : startsWithHrp n s) (p : Params) :
    validateDone p n s =
      { segwitDone p n s with path := true, payload := Vector.replicate 25 0, b58Info := .cleared, chkCalc := 0, chkPay := 0 } :=
  if_pos ((takesBech32_iff n s).2 h)

/-- On the base58 path VALIDATE leaves B58CHK's state, but for the cleared bech32 outputs (R252, R253). -/
theorem validateDone_of_not_hrp {n : Network} {s : State} (h : ¬ startsWithHrp n s) (p : Params) :
    validateDone p n s = (b58chkDone p n s).clearBech32 :=
  if_neg (mt (takesBech32_iff n s).1 h)

/-! ### The statement -/

/-- Settles O59, path by path. -/
theorem validateTakesOnePath : Obligations.ValidateTakesOnePath := by
  intro n s t
  rw [exec_eq_completed (i := .validate n) rfl]
  refine ⟨fun hpath h => ?_, fun hpath h => ?_⟩ <;> obtain ⟨-, rfl⟩ := exec_next h
  · exact congrArg Host.Outcome.next (validateDone_of_hrp hpath Config.params)
  · exact congrArg Host.Outcome.next ((validateDone_of_not_hrp hpath Config.params).trans (clearBech32_eq _))

end Sys2Proof.Machine

/-! PROOFS, family 43_control: the issue of a command word and the illegal-command outcome (R270, R274), the completion of every command
(R273), and CLR against the reset state (R280, R281). -/

namespace Sys2Proof.Machine

/-! ### The state CLR leaves -/

/-- The cleared data registers, with an empty SYM and an empty OUT written out (R280). -/
theorem State.clearData_eq (s : State) :
    s.clearData =
      { s with
        inLen := 0, inBuf := Vector.replicate 90 0, symLen := 0, sym := Vector.replicate 192 0, outLen := 0
        out := Vector.replicate 256 0, payload := Vector.replicate 25 0, polyRes := 0, b58Info := .cleared, b32Info := .cleared
        wver := .cleared, chkCalc := 0, chkPay := 0 } := by
  simp only [State.clearData, State.putSymbols, State.putOut, fill_nil]
  rfl

/-! ### The statements -/

/-- Settles O14: CMD is refused while BUSY is 1, and a write to an idle block turns on whether the word is legal. -/
theorem commandIssue : Obligations.CommandIssue := by
  refine fun s w => ⟨fun hb hw => ?_, fun hb hw => ?_, fun hb => hostWrite_locked regAt_cmd rfl hb rfl⟩
  · exact (hostWrite_cmd hb w).trans (State.writeCmd_of_legal hw s)
  · exact (hostWrite_cmd hb w).trans (State.writeCmd_of_illegal hw s)

/-- Settles O15: the outcome of an illegal word leaves the block idle, where the engine has no step. -/
theorem illegalWordOutcome : Obligations.IllegalWordOutcome := by
  intro s w hb hw
  have hwrite : hostWrite 0x008 0xF w s = s.raiseIllegal w := (hostWrite_cmd hb w).trans (State.writeCmd_of_illegal hw s)
  have hidle : (hostWrite 0x008 0xF w s).busy = false := by rw [hwrite, State.raiseIllegal_busy, hb]
  exact ⟨hwrite, hidle, engineTurn_idle hidle⟩

/-- Settles O33: a command's completion ends it (R272). -/
theorem everyCommandCompletes : Obligations.EveryCommandCompletes :=
  fun i s h => ⟨completed i s, exec_eq_completed h s, completed_busy_done i s⟩

/-- Settles O37: CLR succeeds on the cleared data registers. -/
theorem clrClearsTheDataPath : Obligations.ClrClearsTheDataPath := by
  intro s
  rw [exec_eq_completed rfl, completed, State.clearData_eq]
  rfl

/-- Settles O38: what CLR keeps is named among the exceptions, CMD being the latched word by the invariant (R33, R60). -/
theorem clrIsASoftReset : Obligations.ClrIsASoftReset := by
  intro s t hb hinv hlcmd ht
  have hcmd : s.cmd = 0x00000001 := (hinv.busy_latch hb).symm.trans hlcmd
  obtain rfl := Host.Outcome.next.inj ((clrClearsTheDataPath s).symm.trans ht)
  rw [hcmd, hlcmd]
  rfl

end Sys2Proof.Machine

/-! PROOFS, family 60_exceptions: the interrupt line (R300), the progress of every step (R290, R305), and the reason codes each command can
write (R291). -/

namespace Sys2Proof.Machine

/-! ### The accesses made during a reset -/

/-- While `rst` is asserted an access does nothing but put the word it reads among the words read (R331). -/
theorem accessInReset_cases (s : State) (a : Access) : accessInReset s a = s ∨ ∃ w, accessInReset s a = s.recordRead w := by
  cases a with
  | write => exact .inl rfl
  | read off =>
    unfold accessInReset
    dsimp only
    split
    · exact .inr ⟨_, rfl⟩
    · exact .inr ⟨_, rfl⟩

theorem accessInReset_irq (s : State) (a : Access) : (accessInReset s a).irq = s.irq := by
  obtain h | ⟨w, h⟩ := accessInReset_cases s a <;> rw [h]
  rfl

/-- Reset lowers the interrupt line, whatever the host accesses meanwhile (R300, R331). -/
theorem hostReset_irq (as : List Access) (s : State) : (hostReset as s).irq = false :=
  List.foldlRecOn (motive := fun t => t.irq = false) as accessInReset rfl fun t ht a _ => (accessInReset_irq t a).trans ht

/-! ### The engine's turn always answers -/

theorem exists_decode_of_legal {w : Word} (h : legal w = true) : ∃ i, decode w = .ok i := by
  unfold legal at h
  cases hd : decode w with
  | error => simp [hd, Except.isOk, Except.toBool] at h
  | ok i => exact ⟨i, rfl⟩

/-- A block that latches only legal words has no engine turn that faults or is refused (R270, R290). -/
theorem engineTurn_answers {s : State} (h : s.busy = true → legal s.lcmd = true) : ∃ t, engineTurn s = .next t := by
  cases hb : s.busy with
  | false => exact ⟨s, engineTurn_idle hb⟩
  | true =>
    obtain ⟨i, hd⟩ := exists_decode_of_legal (h hb)
    have hi : WellFormed i := (decode_eq_ok_iff_encode.1 hd).1
    exact ⟨completed i s, (engineTurn_busy hb hd).trans (exec_eq_completed hi s)⟩

/-! ### The reason codes of the rules -/

/-- Under the setting `emptyOk` of B32_EMPTY_HRP_OK, the command `i` can write the code `c`: the code is of its column of R291, and 0x24 only
when an empty HRP is an error. -/
def canWrite (emptyOk : Bool) (i : Instr) (c : Reason) : Prop := c ∈ reasonsOf i ∧ (c = .b32EmptyHrp → emptyOk = false)

/-- The command whose rule a completion with the given PATH follows: VALIDATE follows SEGWIT or B58CHK (R252). -/
def ruleOf (path : Bool) : Instr → Instr
  | .validate n => if path then .segwit n else .b58chk n
  | i => i

/-- A command can write every code of the rule it follows (R252, R291). -/
theorem reasonsOf_ruleOf_subset (path : Bool) (i : Instr) : reasonsOf (ruleOf path i) ⊆ reasonsOf i := by
  cases i with
  | validate n => cases path <;> exact of_decide_eq_true rfl
  | _ => exact List.Subset.refl _

theorem decodeSteps58_reason (zd : ZeroDigit) (L : Nat) (text : List Byte) :
    (decodeSteps58 zd L text).reason = .ok ∨ (decodeSteps58 zd L text).reason = .b58Char := by
  unfold decodeSteps58
  split
  · exact .inr rfl
  · exact .inl rfl

section rules

variable (emptyOk : Bool)

variable {emptyOk} in
/-- A code of a command's column other than 0x24 has no condition (R291). For a named code the check is closed by `rfl`. -/
theorem canWrite_of_decide {i : Instr} {c : Reason} (h : decide (c ∈ reasonsOf i ∧ c ≠ .b32EmptyHrp) = true) : canWrite emptyOk i c :=
  have ⟨hmem, hne⟩ := of_decide_eq_true h
  ⟨hmem, fun hc => absurd hc hne⟩

theorem b58decOf_canWrite (zd : ZeroDigit) (L : Nat) (text : List Byte) : canWrite emptyOk .b58dec (b58decOf zd L text).reason := by
  unfold b58decOf
  split
  · exact canWrite_of_decide rfl
  · obtain h | h := decodeSteps58_reason zd L text <;> rw [h] <;> exact canWrite_of_decide rfl

theorem checksum58Reason_canWrite (n : Network) (computed carried : Word) (canonical : Bool) :
    canWrite emptyOk (.b58chk n) (checksum58Reason computed carried canonical) := by
  unfold checksum58Reason
  split_ifs <;> exact canWrite_of_decide rfl

theorem b58chkOf_canWrite (p : Params) (n : Network) (L : Nat) (text : List Byte) :
    canWrite emptyOk (.b58chk n) (b58chkOf p n L text).reason := by
  unfold b58chkOf
  dsimp only
  split
  · exact canWrite_of_decide rfl
  split
  · rename_i hfail
    rw [(decodeSteps58_reason p.zeroDigit L text).resolve_left hfail]
    exact canWrite_of_decide rfl
  split
  · exact canWrite_of_decide rfl
  · exact checksum58Reason_canWrite _ _ _ _ _

theorem regrpOf_canWrite (f t : BitVec 4) (pad skip : Bool) (data : List Byte) :
    canWrite emptyOk (.regrp f t pad skip) (regrpOf data f.toNat t.toNat pad).2 := by
  unfold regrpOf
  split
  case h_4 => split <;> exact canWrite_of_decide rfl
  all_goals exact canWrite_of_decide rfl

theorem checksumSteps_canWrite (info : B32Info) (hrp data : List Byte) :
    canWrite emptyOk .b32dec (checksumSteps info hrp data).reason := by
  unfold checksumSteps
  dsimp only
  split <;> exact canWrite_of_decide rfl

/-- The one check that writes 0x24 is made only when an empty HRP is an error (R196, R197). -/
theorem separatedSteps_canWrite (L : Nat) (lc : List Byte) (pos : Nat) :
    canWrite emptyOk .b32dec (separatedSteps emptyOk L lc pos).reason := by
  unfold separatedSteps
  dsimp only
  split
  · rename_i hempty
    exact ⟨of_decide_eq_true rfl, fun _ => hempty.2⟩
  split
  · exact canWrite_of_decide rfl
  split
  · exact canWrite_of_decide rfl
  · exact checksumSteps_canWrite _ _ _ _

theorem decode32_canWrite (L : Nat) (text : List Byte) : canWrite emptyOk .b32dec (decode32 emptyOk L text).reason := by
  unfold decode32
  split
  · exact canWrite_of_decide rfl
  split
  · exact canWrite_of_decide rfl
  split
  · exact canWrite_of_decide rfl
  split
  · exact canWrite_of_decide rfl
  · exact separatedSteps_canWrite _ _ _ _

variable {emptyOk} in
/-- SEGWIT can write every code of B32DEC (R222, R291). -/
theorem canWrite.segwit {c : Reason} (h : canWrite emptyOk .b32dec c) (n : Network) : canWrite emptyOk (.segwit n) c :=
  ⟨List.mem_append_left _ h.1, h.2⟩

theorem programReason_canWrite (n : Network) (ver M : Nat) : canWrite emptyOk (.segwit n) (programReason ver M) := by
  unfold programReason
  split_ifs <;> exact canWrite_of_decide rfl

/-- The symbols of a data part fit 5 bits, so the program is never out of range (R195, R222). -/
theorem programSteps_canWrite (n : Network) {b : Decode32} (hsyms : ∀ v ∈ b.syms, v.toNat < 32) :
    canWrite emptyOk (.segwit n) (programSteps b).reason := by
  unfold programSteps
  dsimp only
  split
  · rename_i hrange
    obtain ⟨v, hv, hle⟩ := (convertBits_failRange (by decide)).1 hrange
    exact absurd (naturals_drop_lt hsyms 1 v hv) (Nat.not_lt.2 hle)
  · exact canWrite_of_decide rfl
  · exact canWrite_of_decide rfl
  · exact programReason_canWrite _ _ _ _

theorem segwitOf_canWrite (n : Network) {L : Nat} {text : List Byte} (hlen : L ≤ 90 → text.length = L) :
    canWrite emptyOk (.segwit n) (segwitOf emptyOk n L text).reason := by
  by_cases hok : (decode32 emptyOk L text).reason = .ok
  case neg =>
    rw [segwitOf_b32Fails rfl hok]
    exact (decode32_canWrite emptyOk L text).segwit n
  by_cases hhrp : (decode32 emptyOk L text).hrp = hrpBytes n
  case neg =>
    rw [segwitOf_otherHrp rfl hok hhrp]
    exact canWrite_of_decide rfl
  obtain ⟨-, -, -, -, -, hsyms⟩ := decode32_ok_shape hlen rfl hok
  rw [segwitOf_program rfl hok hhrp]
  exact programSteps_canWrite emptyOk n hsyms

end rules

/-! ### The reason codes of the completions -/

theorem polyDone_reason (s : State) : (polyDone s).reason = .ok ∨ (polyDone s).reason = .polyNotOne := by
  unfold polyDone
  dsimp only
  split
  · exact .inl rfl
  · exact .inr rfl

theorem hrpxDone_reason (s : State) : (hrpxDone s).reason = .ok ∨ (hrpxDone s).reason = .inTooLong := by
  unfold hrpxDone
  split
  · exact .inr rfl
  · exact .inl rfl

/-- Every completion writes a code of the rule it follows (R252, R291). -/
theorem completed_canWrite (i : Instr) (s : State) :
    canWrite Config.emptyHrpOk (ruleOf (completed i s).path i) (completed i s).reason := by
  have hlen : s.inLen.toNat ≤ 90 → s.text.length = s.inLen.toNat := text_length_of_le
  cases i with
  | clr => exact canWrite_of_decide rfl
  | b58dec => exact b58decOf_canWrite _ _ _ _
  | b58chk n => exact b58chkOf_canWrite _ _ n _ _
  | poly => obtain h | h := polyDone_reason s <;> rw [completed, h] <;> exact canWrite_of_decide rfl
  | hrpx => obtain h | h := hrpxDone_reason s <;> rw [completed, h] <;> exact canWrite_of_decide rfl
  | b32dec => exact decode32_canWrite _ _ _
  | regrp f t pad skip => exact regrpOf_canWrite _ f t pad skip _
  | segwit n => exact segwitOf_canWrite _ n hlen
  | validate n =>
    by_cases h : startsWithHrp n s
    · rw [completed, validateDone_of_hrp h]
      exact segwitOf_canWrite _ n hlen
    · rw [completed, validateDone_of_not_hrp h]
      exact b58chkOf_canWrite _ _ n _ _

/-- The REASON register holds the value of the reason code (R42, R291). -/
theorem regValue_reason_toNat (s : State) : (regValue s .reason).toNat = (reasonCode s.reason).toNat := by
  rw [regValue, fieldAt_zero, BitVec.zeroExtend_eq_setWidth, BitVec.toNat_setWidth_of_le (by decide)]

/-! ### The statements -/

/-- Settles O24: an access and a reset always answer, and the engine's turn does because the invariant has LCMD legal while BUSY is 1. -/
theorem noStepStopsTheBlock : Obligations.NoStepStopsTheBlock := by
  intro s hinv
  cases hs : s.schedule with
  | nil => exact step_end hs ▸ engineTurn_answers hinv.busy_legal
  | cons e es =>
    cases e with
    | access a => exact ⟨_, step_access hs⟩
    | reset as => exact ⟨_, step_reset hs⟩
    | engine => exact step_engine hs ▸ engineTurn_answers (hinv.setSchedule es).busy_legal

/-- Settles O35: a completion writes a code of the rule it follows, and the values of those codes are the ones listed. -/
theorem reasonCodesByCommand : Obligations.ReasonCodesByCommand := by
  refine ⟨by decide, fun i s t h => ?_⟩
  obtain ⟨-, rfl⟩ := exec_next h
  obtain ⟨hmem, hempty⟩ := completed_canWrite i s
  refine ⟨reasonsOf_ruleOf_subset _ i hmem, hempty, ?_⟩
  have hcode := List.mem_map_of_mem (f := fun c => (reasonCode c).toNat) hmem
  rw [regValue_reason_toNat]
  cases i with
  | validate n => cases hpath : (completed (.validate n) s).path <;> rw [hpath] at hcode <;> exact hcode
  | _ => exact hcode

/-- Settles O16, clause by clause: IRQ_EN and DONE after each write, reset and completion. -/
theorem interruptFollowsDone : Obligations.InterruptFollowsDone := by
  intro s
  refine ⟨rfl, fun v => ?_, fun v hv => ?_, fun w hb hw => ?_, fun as => hostReset_irq as s, fun i t h => ?_⟩
  · rw [hostWrite_ctrl]
    rfl
  · rw [hostWrite_status]
    simp [State.irq, hv, State.acknowledge]
  · rw [hostWrite_cmd hb, State.writeCmd_of_legal hw]
    simp [State.irq]
  · obtain ⟨-, rfl⟩ := exec_next h
    simp [State.irq, (completed_busy_done i s).2, (completed_sameControl i s).1]

end Sys2Proof.Machine

/-! PROOFS, family 70_reset_and_hazards: the state a reset leaves, the accesses made during it included (R330, R331), and the end of every
run (R347, R350). -/

namespace Sys2Proof.Machine

/-! ### The state a reset leaves -/

/-- The word an access returns while `rst` is asserted joins the words read; the rest of the state stays (R331). -/
theorem accessInReset_eq (s : State) (a : Access) :
    accessInReset s a = { s with reads := s.reads ++ (resetWord a).toList } := by
  cases a with
  | write off strb v => simp [accessInReset, resetWord]
  | read off =>
    have hid : regAt off = some .id ↔ off = 0x000 := regAt_eq_some.trans (BitVec.toNat_inj (y := 0x000))
    unfold accessInReset
    dsimp only
    cases hr : regAt off with
    | none =>
      have hoff : off ≠ 0x000 := fun h => nomatch hr.symm.trans (hid.2 h)
      simpa [resetWord, State.recordRead] using hoff
    | some r =>
      have hoff : r = .id ↔ off = 0x000 := by rw [← hid, hr, Option.some_inj]
      simp [resetLeavesZeros.1, resetWord, hoff, State.recordRead]

theorem foldl_accessInReset (as : List Access) (s : State) :
    as.foldl accessInReset s = { s with reads := s.reads ++ as.filterMap resetWord } := by
  induction as generalizing s with
  | nil => simp
  | cons a as ih =>
    rw [List.foldl_cons, ih, accessInReset_eq]
    cases h : resetWord a <;> simp [h]

/-! ### A step takes the head of the schedule -/

theorem hostAccess_schedule (a : Access) (s : State) : (hostAccess a s).schedule = s.schedule := by
  cases a with
  | read off => obtain h | h | ⟨-, h⟩ := hostRead_state off s <;> rw [hostAccess, h] <;> rfl
  | write off strb v =>
    obtain h | h | ⟨r, -, -, -, -, h⟩ := hostWrite_cases off strb v s <;> rw [hostAccess, h]
    · rfl
    · rfl
    · cases r with
      | cmd =>
        rw [storeReg, State.writeCmd]
        split <;> rfl
      | _ => rfl

theorem hostReset_schedule (as : List Access) (s : State) : (hostReset as s).schedule = s.schedule := by
  rw [hostReset, foldl_accessInReset]
  rfl

/-- The engine's turn leaves the schedule, and BUSY is 0 after it (R272). -/
theorem engineTurn_schedule_busy {s t : State} (h : engineTurn s = .next t) : t.schedule = s.schedule ∧ t.busy = false := by
  obtain ⟨hb, rfl⟩ | ⟨-, i, -, -, rfl⟩ := engineTurn_next h
  · exact ⟨rfl, hb⟩
  · obtain ⟨-, -, -, -, -, -, hsched, -⟩ := completed_sameControl i s
    exact ⟨hsched, (completed_busy_done i s).1⟩

theorem step_schedule {s t : State} (h : step s = .next t) : t.schedule = s.schedule.tail := by
  obtain ⟨a, es, hs, rfl⟩ | ⟨as, es, hs, rfl⟩ | ⟨es, hs, ht⟩ := step_next h
  · rw [hostAccess_schedule, hs]
    rfl
  · rw [hostReset_schedule, hs]
    rfl
  · rw [(engineTurn_schedule_busy ht).1]
    obtain hs | ⟨hs, rfl⟩ := hs <;> rw [hs] <;> rfl

theorem run_succ_of_step {s t : State} (h : step s = .next t) (k : Nat) :
    Host.Core.run core (k + 1) s = Host.Core.run core k t := by
  have hcore : core.step s = .next t := h
  simp only [Host.Core.run, hcore]

/-! ### The statements -/

/-- Settles O19: access by access, a reset reads zeros except at ID. -/
theorem accessesDuringReset : Obligations.AccessesDuringReset :=
  fun as s => foldl_accessInReset as s.resetBlock

/-- Settles O25, by induction on the schedule: each step takes its head, and the engine's turn at its end clears BUSY. -/
theorem everyRunEnds : Obligations.EveryRunEnds := by
  intro s hinv
  induction hs : s.schedule generalizing s with
  | nil =>
    obtain ⟨t, ht⟩ := noStepStopsTheBlock s hinv
    obtain ⟨hsched, hbusy⟩ := engineTurn_schedule_busy ((step_end hs).symm.trans ht)
    have hnil : t.schedule = [] := hsched.trans hs
    exact ⟨t, run_succ_of_step ht 0, by simp [State.ended, hnil, hbusy], hnil, hbusy⟩
  | cons e es ih =>
    obtain ⟨u, hu⟩ := noStepStopsTheBlock s hinv
    have htail : u.schedule = es := by rw [step_schedule hu, hs, List.tail_cons]
    obtain ⟨t, hrun, hend⟩ := ih u (invariantKeptByEveryStep s u hinv hu) htail
    exact ⟨t, (run_succ_of_step hu _).trans hrun, hend⟩

/-- Settles O18: a reset event without accesses leaves the reset block as it is. -/
theorem resetAtAnyPoint : Obligations.ResetAtAnyPoint := fun _ _ h => step_reset h

end Sys2Proof.Machine
